-- ==== Sys2Proof/Word.lean ====
section
/-! DEFINITION. The widths that spec/00_scope.md R6 makes parameters, at its defaults (decisions D4
and D18), and the words of the machine, each of one of these widths. The machine's definitions name the
widths and hold at others; the statements and the lemmas are written at these (log 5). Bit 0 is the
least significant bit of every value (R9). -/

namespace Sys2Proof

/-- `W`: the width of a data word and of every `dreg` but MR2 and SE (R6). -/
abbrev Config.W : Nat := 16

/-- `SRW`: the width of SR (R6). -/
abbrev Config.SRW : Nat := 32

/-- `MRW`: the width of MR = MR2 :: MR1 :: MR0 (R6). -/
abbrev Config.MRW : Nat := 40

/-- The width of MR2, what `MRW` leaves above two words (R6). -/
abbrev Config.MR2W : Nat := 8

/-- `AW`: the width of an address, of PC, of I, M, L and CNTR (R6). -/
abbrev Config.AW : Nat := 14

/-- `IW`: the width of an instruction word and of a PM word (R6). -/
abbrev Config.IW : Nat := 24

/-- `SEW`: the width of SE (R6). -/
abbrev Config.SEW : Nat := 8

/-- `SBW`: the width of SB (R6). -/
abbrev Config.SBW : Nat := 5

/-- `PXW`: the width of PX (R6). -/
abbrev Config.PXW : Nat := 8

/-- A data word: a DM word and every 16-bit register (R6 `W`, R81). -/
abbrev Word := BitVec Config.W

/-- An address, and what PC, I, M, L and CNTR hold (R6 `AW`, R81). -/
abbrev Addr := BitVec Config.AW

/-- A program memory word, and an instruction word (R6 `IW`, R81). -/
abbrev PmBits := BitVec Config.IW

/-- The accumulator `MR = MR2 :: MR1 :: MR0` (R6 `MRW`, R33). -/
abbrev Acc := BitVec Config.MRW

end Sys2Proof
end

