-- ==== Sys2Proof/Syntax.lean ====
section
/-! DEFINITION. The instructions: the grammar of spec/30_encoding.md R113 as terms, one constructor
of `Instr` for each row of spec/opcode_table.json, over the operand classes R114 to R123 and R131.
A form the grammar cannot write (an `IF FLAG_IN` on an ALU operation, a mode named twice, an
`IDLE (5)`) is no term; what is left of the grammar's checks is in WellFormed.lean. -/

namespace Sys2Proof

/-- The ALU `xop` registers (R115). -/
inductive XAlu | ax0 | ax1 | ar | mr0 | mr1 | mr2 | sr0 | sr1
  deriving DecidableEq, Repr

/-- The ALU `yop` registers (R115). -/
inductive YAlu | ay0 | ay1 | af
  deriving DecidableEq, Repr

/-- The MAC `xop` registers (R115). -/
inductive XMac | mx0 | mx1 | ar | mr0 | mr1 | mr2 | sr0 | sr1
  deriving DecidableEq, Repr

/-- The MAC `yop` registers (R115). -/
inductive YMac | my0 | my1 | mf
  deriving DecidableEq, Repr

/-- The Shifter `xop` registers (R115). -/
inductive XShift | si | sr1 | sr0 | ar | mr0 | mr1 | mr2
  deriving DecidableEq, Repr

/-- The register class `dreg`, the data registers (R20). -/
inductive DReg
  | ax0 | ax1 | mx0 | mx1 | ay0 | ay1 | my0 | my1 | si | se | ar | mr0 | mr1 | mr2 | sr0 | sr1
  deriving DecidableEq, Repr

/-- The register class `reg` (R20), and the write-only counter load `owrcntr` of R130. -/
inductive Reg
  | dreg (d : DReg)
  | i (n : Fin 8) | m (n : Fin 8) | l (n : Fin 8)
  | astat | mstat | sstat | imask | icntl | cntr | sb | px
  | rx0 | tx0 | rx1 | tx1 | ifc | owrcntr
  deriving DecidableEq, Repr

/-- The IF conditions (R114), `always` where the statement has no IF clause. -/
inductive Cond
  | eq | ne | gt | le | lt | ge | av | notAv | ac | notAc | neg | pos | mv | notMv | notCe | always
  deriving DecidableEq, Repr

/-- The loop terminations (R123). -/
inductive Term
  | ne | eq | le | gt | ge | lt | notAv | av | notAc | ac | pos | neg | notMv | mv | ce | forever
  deriving DecidableEq, Repr

/-- The destination of an ALU instruction (R170). -/
inductive AluDest | ar | af
  deriving DecidableEq, Repr

/-- The destination of a MAC instruction (R220). -/
inductive MacDest | mr | mf
  deriving DecidableEq, Repr

/-- The MAC modifiers (R131). -/
inductive MacMod | rnd | ss | su | us | uu
  deriving DecidableEq, Repr

/-- What a MAC instruction does with its product: `xop * yop`, `MR + ...`, `MR - ...` (R224 to R226). -/
inductive MacKind | mul | mac | msub
  deriving DecidableEq, Repr

/-- The half of SR a shift is relative to (R131). -/
inductive Half | hi | lo
  deriving DecidableEq, Repr

/-- The modifiers of EXP (R131). -/
inductive ExpMode | hi | hix | lo
  deriving DecidableEq, Repr

/-- The shifts that SE controls (R253 to R255). -/
inductive ShiftKind | ashift | lshift | norm
  deriving DecidableEq, Repr

/-- The divisors of `IDLE (n)` (R120). -/
inductive IdleDiv | n16 | n32 | n64 | n128
  deriving DecidableEq, Repr

/-- The seven processor modes (R347). -/
inductive Mode | secReg | bitRev | avLatch | arSat | mMode | timer | gMode
  deriving DecidableEq, Repr

/-- What a mode control statement says of one mode (R347): nothing, ENA or DIS. -/
inductive Switch | keep | ena | dis
  deriving DecidableEq, Repr

/-- What a flag out statement says of one flag (R357). -/
inductive FlagOp | keep | toggle | reset | set
  deriving DecidableEq, Repr

/-- The STS clause of a stack control statement (R341). -/
inductive StsOp | push | pop
  deriving DecidableEq, Repr

/-- The X input registers a two-read instruction loads (R152). -/
inductive XDual | ax0 | ax1 | mx0 | mx1
  deriving DecidableEq, Repr

/-- The Y input registers a two-read instruction loads (R152). -/
inductive YDual | ay0 | ay1 | my0 | my1
  deriving DecidableEq, Repr

/-- A bit number 0 to 15 (R120), and the `k` of a constant 2^k or NOT 2^k (R121). -/
abbrev Bit := Fin 16

/-- A `constant` operand (R121) other than NOT 2^k, 0 and -1, which have constructors of `Instr` as they
have rows in spec/opcode_table.json. Which constants a member takes is `Params.aluConstants` (log 33). -/
inductive Constant
  /-- The constant 2^k. -/
  | pow (k : Bit)
  /-- A constant of no row's form; it has no word (log 10). -/
  | other (v : Word)
  deriving DecidableEq, Repr

/-- The signed 8-bit shift amount `<exp>` (R119). -/
abbrev Exp8 := BitVec 8

/-- The number of an index register within DAG2: 0 is I4 (R301). -/
abbrev DagIdx := Fin 4

/-- An `(Ii, Mj)` pair; that both are of one DAG is checked in WellFormed.lean (R122). -/
structure Pair where
  i : Fin 8
  m : Fin 8
  deriving DecidableEq, Repr

/-- The ALU expressions with register operands (R176 to R191): what may stand after `NONE =` (R194)
and in a computation clause (R159). `B` in a name is the `+ C - 1` of a borrow. -/
inductive AluFn
  | xPlusY (x : XAlu) (y : YAlu) | xPlusC (x : XAlu) | xPlusYC (x : XAlu) (y : YAlu)
  | xMinusY (x : XAlu) (y : YAlu) | xMinusYB (x : XAlu) (y : YAlu) | xB (x : XAlu)
  | yMinusX (x : XAlu) (y : YAlu) | yMinusXB (x : XAlu) (y : YAlu) | negXB (x : XAlu)
  | land (x : XAlu) (y : YAlu) | lor (x : XAlu) (y : YAlu) | lxor (x : XAlu) (y : YAlu)
  | passX (x : XAlu) | passY (y : YAlu) | negX (x : XAlu) | negY (y : YAlu)
  | notX (x : XAlu) | notY (y : YAlu) | absX (x : XAlu) | incY (y : YAlu) | decY (y : YAlu)
  deriving DecidableEq, Repr

/-- The MAC expressions (R224 to R228). -/
inductive MacFn
  | prod (n : MacKind) (m : MacMod) (x : XMac) (y : YMac)
  | square (n : MacKind) (m : MacMod) (x : XMac)
  | zero | mr | mrRnd
  deriving DecidableEq, Repr

/-- The Shifter computations that SE or no amount controls (R253 to R257): what may stand in a
computation clause (R159 (e)). -/
inductive ShiftFn
  | shift (n : ShiftKind) (o : Bool) (h : Half) (x : XShift)
  | exp (n : ExpMode) (x : XShift)
  | expadj (x : XShift)
  deriving DecidableEq, Repr

/-- An ALU or MAC computation clause with its destination (R150, R159). -/
inductive Comp
  | alu (f : AluFn) (z : AluDest)
  | mac (f : MacFn) (z : MacDest)
  deriving DecidableEq, Repr

/-- The clauses of a mode control statement, one place for each mode (R347). -/
structure ModeOps where
  timer : Switch
  mMode : Switch
  arSat : Switch
  avLatch : Switch
  bitRev : Switch
  secReg : Switch
  gMode : Switch
  deriving DecidableEq, Repr

/-- The clauses of a flag out statement, one place for each flag (R357). -/
structure FlagOps where
  fl2 : FlagOp
  fl1 : FlagOp
  fl0 : FlagOp
  fo : FlagOp
  deriving DecidableEq, Repr

/-- The clauses of a stack control statement (R341). -/
structure StackOps where
  pc : Bool
  loop : Bool
  cntr : Bool
  sts : Option StsOp
  deriving DecidableEq, Repr

/-- The instructions, in the order of spec/opcode_table.json. -/
inductive Instr
  -- Table 15.3, ALU (41_alu.md)
  /-- R176 `[IF cond] AR|AF = xop + yop`. -/
  | addXY (z : AluDest) (x : XAlu) (y : YAlu) (c : Cond)
  /-- R176 `[IF cond] AR|AF = xop + C`. -/
  | addXC (z : AluDest) (x : XAlu) (c : Cond)
  /-- R176 `[IF cond] AR|AF = xop + yop + C`. -/
  | addXYC (z : AluDest) (x : XAlu) (y : YAlu) (c : Cond)
  /-- R176 `[IF cond] AR|AF = xop + constant`. -/
  | addXK (z : AluDest) (x : XAlu) (k : Constant) (c : Cond)
  /-- R176 `[IF cond] AR|AF = xop + constant + C`. -/
  | addXKC (z : AluDest) (x : XAlu) (k : Constant) (c : Cond)
  /-- R176 `[IF cond] AR|AF = xop + constant`, the constant NOT 2^k. -/
  | addXNK (z : AluDest) (x : XAlu) (k : Bit) (c : Cond)
  /-- R176 `[IF cond] AR|AF = xop + constant + C`, the constant NOT 2^k. -/
  | addXNKC (z : AluDest) (x : XAlu) (k : Bit) (c : Cond)
  /-- R177 `[IF cond] AR|AF = xop - yop`. -/
  | subXY (z : AluDest) (x : XAlu) (y : YAlu) (c : Cond)
  /-- R177 `[IF cond] AR|AF = xop - yop + C - 1`. -/
  | subXYC (z : AluDest) (x : XAlu) (y : YAlu) (c : Cond)
  /-- R177 `[IF cond] AR|AF = xop + C - 1`. -/
  | subXC (z : AluDest) (x : XAlu) (c : Cond)
  /-- R177 `[IF cond] AR|AF = xop - constant`. -/
  | subXK (z : AluDest) (x : XAlu) (k : Constant) (c : Cond)
  /-- R177 `[IF cond] AR|AF = xop - constant + C - 1`. -/
  | subXKC (z : AluDest) (x : XAlu) (k : Constant) (c : Cond)
  /-- R177 `[IF cond] AR|AF = xop - constant`, the constant NOT 2^k. -/
  | subXNK (z : AluDest) (x : XAlu) (k : Bit) (c : Cond)
  /-- R177 `[IF cond] AR|AF = xop - constant + C - 1`, the constant NOT 2^k. -/
  | subXNKC (z : AluDest) (x : XAlu) (k : Bit) (c : Cond)
  /-- R178 `[IF cond] AR|AF = yop - xop`. -/
  | subYX (z : AluDest) (x : XAlu) (y : YAlu) (c : Cond)
  /-- R178 `[IF cond] AR|AF = yop - xop + C - 1`. -/
  | subYXC (z : AluDest) (x : XAlu) (y : YAlu) (c : Cond)
  /-- R178 `[IF cond] AR|AF = - xop + C - 1`. -/
  | negXC (z : AluDest) (x : XAlu) (c : Cond)
  /-- R178 `[IF cond] AR|AF = - xop + constant`. -/
  | subKX (z : AluDest) (x : XAlu) (k : Constant) (c : Cond)
  /-- R178 `[IF cond] AR|AF = - xop + constant + C - 1`. -/
  | subKXC (z : AluDest) (x : XAlu) (k : Constant) (c : Cond)
  /-- R178 `[IF cond] AR|AF = - xop + constant`, the constant NOT 2^k. -/
  | subNKX (z : AluDest) (x : XAlu) (k : Bit) (c : Cond)
  /-- R178 `[IF cond] AR|AF = - xop + constant + C - 1`, the constant NOT 2^k. -/
  | subNKXC (z : AluDest) (x : XAlu) (k : Bit) (c : Cond)
  /-- R179 `[IF cond] AR|AF = xop AND yop`. -/
  | andXY (z : AluDest) (x : XAlu) (y : YAlu) (c : Cond)
  /-- R179 `[IF cond] AR|AF = xop AND constant`. -/
  | andXK (z : AluDest) (x : XAlu) (k : Constant) (c : Cond)
  /-- R179 `[IF cond] AR|AF = xop AND constant`, the constant NOT 2^k. -/
  | andXNK (z : AluDest) (x : XAlu) (k : Bit) (c : Cond)
  /-- R180 `[IF cond] AR|AF = xop OR yop`. -/
  | orXY (z : AluDest) (x : XAlu) (y : YAlu) (c : Cond)
  /-- R180 `[IF cond] AR|AF = xop OR constant`. -/
  | orXK (z : AluDest) (x : XAlu) (k : Constant) (c : Cond)
  /-- R180 `[IF cond] AR|AF = xop OR constant`, the constant NOT 2^k. -/
  | orXNK (z : AluDest) (x : XAlu) (k : Bit) (c : Cond)
  /-- R181 `[IF cond] AR|AF = xop XOR yop`. -/
  | xorXY (z : AluDest) (x : XAlu) (y : YAlu) (c : Cond)
  /-- R181 `[IF cond] AR|AF = xop XOR constant`. -/
  | xorXK (z : AluDest) (x : XAlu) (k : Constant) (c : Cond)
  /-- R181 `[IF cond] AR|AF = xop XOR constant`, the constant NOT 2^k. -/
  | xorXNK (z : AluDest) (x : XAlu) (k : Bit) (c : Cond)
  /-- R182 `[IF cond] AR|AF = TSTBIT n OF xop`. -/
  | tstbit (z : AluDest) (x : XAlu) (k : Bit) (c : Cond)
  /-- R183 `[IF cond] AR|AF = SETBIT n OF xop`. -/
  | setbit (z : AluDest) (x : XAlu) (k : Bit) (c : Cond)
  /-- R184 `[IF cond] AR|AF = CLRBIT n OF xop`. -/
  | clrbit (z : AluDest) (x : XAlu) (k : Bit) (c : Cond)
  /-- R185 `[IF cond] AR|AF = TGLBIT n OF xop`. -/
  | tglbit (z : AluDest) (x : XAlu) (k : Bit) (c : Cond)
  /-- R186 `[IF cond] AR|AF = PASS xop`. -/
  | passX (z : AluDest) (x : XAlu) (c : Cond)
  /-- R186 `[IF cond] AR|AF = PASS yop`. -/
  | passY (z : AluDest) (y : YAlu) (c : Cond)
  /-- R186 `[IF cond] AR|AF = PASS 0`. -/
  | pass0 (z : AluDest) (c : Cond)
  /-- R186 `[IF cond] AR|AF = PASS 1`. -/
  | pass1 (z : AluDest) (c : Cond)
  /-- R186 `[IF cond] AR|AF = PASS -1`. -/
  | passM1 (z : AluDest) (c : Cond)
  /-- R186 `[IF cond] AR|AF = PASS constant`. -/
  | passK (z : AluDest) (k : Constant) (c : Cond)
  /-- R186 `[IF cond] AR|AF = PASS constant`, the constant NOT 2^k. -/
  | passNK (z : AluDest) (k : Bit) (c : Cond)
  /-- R187 `[IF cond] AR|AF = - xop`. -/
  | negX (z : AluDest) (x : XAlu) (c : Cond)
  /-- R187 `[IF cond] AR|AF = - yop`. -/
  | negY (z : AluDest) (y : YAlu) (c : Cond)
  /-- R188 `[IF cond] AR|AF = NOT xop`. -/
  | notX (z : AluDest) (x : XAlu) (c : Cond)
  /-- R188 `[IF cond] AR|AF = NOT yop`. -/
  | notY (z : AluDest) (y : YAlu) (c : Cond)
  /-- R189 `[IF cond] AR|AF = ABS xop`. -/
  | absX (z : AluDest) (x : XAlu) (c : Cond)
  /-- R190 `[IF cond] AR|AF = yop + 1`. -/
  | incY (z : AluDest) (y : YAlu) (c : Cond)
  /-- R191 `[IF cond] AR|AF = yop - 1`. -/
  | decY (z : AluDest) (y : YAlu) (c : Cond)
  /-- R192 `DIVS yop , xop`. -/
  | divs (y : YAlu) (x : XAlu)
  /-- R193 `DIVQ xop`. -/
  | divq (x : XAlu)
  /-- R194 `NONE = <ALU>`. -/
  | noneAlu (f : AluFn)
  -- Table 15.4, MAC (42_mac.md)
  /-- R224 `[IF cond] MR|MF = xop * yop (RND)`. -/
  | mulRnd (z : MacDest) (x : XMac) (y : YMac) (c : Cond)
  /-- R224 `[IF cond] MR|MF = xop * yop (SS)`. -/
  | mulSs (z : MacDest) (x : XMac) (y : YMac) (c : Cond)
  /-- R224 `[IF cond] MR|MF = xop * yop (SU)`. -/
  | mulSu (z : MacDest) (x : XMac) (y : YMac) (c : Cond)
  /-- R224 `[IF cond] MR|MF = xop * yop (US)`. -/
  | mulUs (z : MacDest) (x : XMac) (y : YMac) (c : Cond)
  /-- R224 `[IF cond] MR|MF = xop * yop (UU)`. -/
  | mulUu (z : MacDest) (x : XMac) (y : YMac) (c : Cond)
  /-- R225 `[IF cond] MR|MF = MR + xop * yop (RND)`. -/
  | macRnd (z : MacDest) (x : XMac) (y : YMac) (c : Cond)
  /-- R225 `[IF cond] MR|MF = MR + xop * yop (SS)`. -/
  | macSs (z : MacDest) (x : XMac) (y : YMac) (c : Cond)
  /-- R225 `[IF cond] MR|MF = MR + xop * yop (SU)`. -/
  | macSu (z : MacDest) (x : XMac) (y : YMac) (c : Cond)
  /-- R225 `[IF cond] MR|MF = MR + xop * yop (US)`. -/
  | macUs (z : MacDest) (x : XMac) (y : YMac) (c : Cond)
  /-- R225 `[IF cond] MR|MF = MR + xop * yop (UU)`. -/
  | macUu (z : MacDest) (x : XMac) (y : YMac) (c : Cond)
  /-- R226 `[IF cond] MR|MF = MR - xop * yop (RND)`. -/
  | msubRnd (z : MacDest) (x : XMac) (y : YMac) (c : Cond)
  /-- R226 `[IF cond] MR|MF = MR - xop * yop (SS)`. -/
  | msubSs (z : MacDest) (x : XMac) (y : YMac) (c : Cond)
  /-- R226 `[IF cond] MR|MF = MR - xop * yop (SU)`. -/
  | msubSu (z : MacDest) (x : XMac) (y : YMac) (c : Cond)
  /-- R226 `[IF cond] MR|MF = MR - xop * yop (US)`. -/
  | msubUs (z : MacDest) (x : XMac) (y : YMac) (c : Cond)
  /-- R226 `[IF cond] MR|MF = MR - xop * yop (UU)`. -/
  | msubUu (z : MacDest) (x : XMac) (y : YMac) (c : Cond)
  /-- R224, R225, R226 (R221) `[IF cond] MR|MF = [MR +|-] xop * xop (SS|UU|RND)`. -/
  | square (z : MacDest) (n : MacKind) (m : MacMod) (x : XMac) (c : Cond)
  /-- R227 `[IF cond] MR|MF = 0`. -/
  | mrZero (z : MacDest) (c : Cond)
  /-- R228 `[IF cond] MR|MF = MR`. -/
  | mrMr (z : MacDest) (c : Cond)
  /-- R228 `[IF cond] MR|MF = MR (RND)`. -/
  | mrMrRnd (z : MacDest) (c : Cond)
  /-- R229 `IF MV SAT MR`. -/
  | satMr
  -- Table 15.5, Shifter (43_shifter.md)
  /-- R253 `[IF cond] SR = [SR OR] ASHIFT xop (HI|LO)`; `o` is `SR OR`. -/
  | ashift (o : Bool) (x : XShift) (h : Half) (c : Cond)
  /-- R254 `[IF cond] SR = [SR OR] LSHIFT xop (HI|LO)`; `o` is `SR OR`. -/
  | lshift (o : Bool) (x : XShift) (h : Half) (c : Cond)
  /-- R255 `[IF cond] SR = [SR OR] NORM xop (HI|LO)`; `o` is `SR OR`. -/
  | norm (o : Bool) (x : XShift) (h : Half) (c : Cond)
  /-- R256 `[IF cond] SE = EXP xop (HI)`. -/
  | expHi (x : XShift) (c : Cond)
  /-- R256 `[IF cond] SE = EXP xop (HIX)`. -/
  | expHix (x : XShift) (c : Cond)
  /-- R256 `[IF cond] SE = EXP xop (LO)`. -/
  | expLo (x : XShift) (c : Cond)
  /-- R257 `[IF cond] SB = EXPADJ xop`. -/
  | expadj (x : XShift) (c : Cond)
  /-- R258 `SR = [SR OR] ASHIFT xop BY <exp> (HI|LO)`. -/
  | ashiftImm (o : Bool) (x : XShift) (e : Exp8) (h : Half)
  /-- R259 `SR = [SR OR] LSHIFT xop BY <exp> (HI|LO)`. -/
  | lshiftImm (o : Bool) (x : XShift) (e : Exp8) (h : Half)
  -- Table 15.6, MOVE (44_move.md)
  /-- R282 `reg = reg`. -/
  | regReg (d : Reg) (r : Reg)
  /-- R283 `reg = DM(<address>)`. -/
  | regDmAddr (d : Reg) (a : Addr)
  /-- R284 `dreg = DM(Ii, Mj)`. -/
  | dregDm (d : DReg) (p : Pair)
  /-- R285 `DM(Ii, Mj) = dreg`. -/
  | dmDreg (p : Pair) (r : DReg)
  /-- R286 `DM(Ii, Mj) = <data>`. -/
  | dmData (p : Pair) (v : Word)
  /-- R287 `DM(<address>) = reg`. -/
  | dmAddrReg (a : Addr) (r : Reg)
  /-- R288 `dreg = <data>`. -/
  | dregData (d : DReg) (v : Word)
  /-- R288 `reg = <data>`, the reg no dreg, the constant 14 bits. -/
  | regData (d : Reg) (v : Addr)
  /-- R289 `dreg = PM(Ii, Mj)`. -/
  | dregPm (d : DReg) (p : Pair)
  /-- R290 `PM(Ii, Mj) = dreg`. -/
  | pmDreg (p : Pair) (r : DReg)
  -- Table 15.8, program flow (45_program_flow.md)
  /-- R301 `[IF cond] JUMP <address>`. -/
  | jumpAddr (a : Addr) (c : Cond)
  /-- R301 `[IF cond] JUMP (I4|I5|I6|I7)`. -/
  | jumpInd (i : DagIdx) (c : Cond)
  /-- R302 `IF [NOT] FLAG_IN JUMP <address>`; `n` is NOT. -/
  | jumpFlag (n : Bool) (a : Addr)
  /-- R303 `[IF cond] CALL <address>`. -/
  | callAddr (a : Addr) (c : Cond)
  /-- R303 `[IF cond] CALL (I4|I5|I6|I7)`. -/
  | callInd (i : DagIdx) (c : Cond)
  /-- R304 `IF [NOT] FLAG_IN CALL <address>`; `n` is NOT. -/
  | callFlag (n : Bool) (a : Addr)
  /-- R305 `[IF cond] RTS`. -/
  | rts (c : Cond)
  /-- R306 `[IF cond] RTI`. -/
  | rti (c : Cond)
  /-- R307 `DO <address> [UNTIL termination]`. -/
  | doUntil (a : Addr) (t : Term)
  /-- R309 `IDLE`. -/
  | idle
  /-- R310 `IDLE (n)`; `n` has no effect on any state. -/
  | idleN (n : IdleDiv)
  -- Table 15.10, miscellaneous (46_misc.md)
  /-- R340 `NOP`. -/
  | nop
  /-- R341 the stack control statement with two clauses or more. -/
  | stackControl (o : StackOps)
  /-- R342 `PUSH STS`. -/
  | pushSts
  /-- R343 `POP STS`. -/
  | popSts
  /-- R344 `POP CNTR`. -/
  | popCntr
  /-- R345 `POP PC`. -/
  | popPc
  /-- R346 `POP LOOP`. -/
  | popLoop
  /-- R347 the mode control statement with any number of clauses but one. -/
  | modeControl (o : ModeOps)
  /-- R347, R355 `ENA TIMER`. -/
  | enaTimer
  /-- R347, R355 `DIS TIMER`. -/
  | disTimer
  /-- R347, R354 `ENA M_MODE`. -/
  | enaMMode
  /-- R347, R354 `DIS M_MODE`. -/
  | disMMode
  /-- R347, R351 `ENA AR_SAT`. -/
  | enaArSat
  /-- R347, R351 `DIS AR_SAT`. -/
  | disArSat
  /-- R347, R350 `ENA AV_LATCH`. -/
  | enaAvLatch
  /-- R347, R350 `DIS AV_LATCH`. -/
  | disAvLatch
  /-- R347, R349 `ENA BIT_REV`. -/
  | enaBitRev
  /-- R347, R349 `DIS BIT_REV`. -/
  | disBitRev
  /-- R347, R352 `ENA SEC_REG`. -/
  | enaSecReg
  /-- R347, R352 `DIS SEC_REG`. -/
  | disSecReg
  /-- R347, R353 `ENA G_MODE`. -/
  | enaGMode
  /-- R347, R353 `DIS G_MODE`. -/
  | disGMode
  /-- R356 `MODIFY (Ii, Mj)`. -/
  | modify (p : Pair)
  /-- R357 `[IF cond] SET|RESET|TOGGLE flag [, ...]`. -/
  | flagOut (o : FlagOps) (c : Cond)
  /-- R358 `ENA INTS`. -/
  | enaInts
  /-- R359 `DIS INTS`. -/
  | disInts
  -- Table 15.2, multifunction (40_multifunction.md)
  /-- R152 `<ALU>|<MAC>, AX0|AX1|MX0|MX1 = DM(Ii, Mj), AY0|AY1|MY0|MY1 = PM(Ik, Ml)`. -/
  | compDmPm (o : Comp) (d : XDual) (p : Pair) (e : YDual) (q : Pair)
  /-- R153 `AX0|AX1|MX0|MX1 = DM(Ii, Mj), AY0|AY1|MY0|MY1 = PM(Ik, Ml)`. -/
  | dualRead (d : XDual) (p : Pair) (e : YDual) (q : Pair)
  /-- R154 `<ALU>|<MAC>, dreg = DM(Ii, Mj)`. -/
  | compDm (o : Comp) (d : DReg) (p : Pair)
  /-- R154 `<SHIFT>, dreg = DM(Ii, Mj)`. -/
  | shiftDm (o : ShiftFn) (d : DReg) (p : Pair)
  /-- R155 `<ALU>|<MAC>, dreg = PM(Ii, Mj)`. -/
  | compPm (o : Comp) (d : DReg) (p : Pair)
  /-- R155 `<SHIFT>, dreg = PM(Ii, Mj)`. -/
  | shiftPm (o : ShiftFn) (d : DReg) (p : Pair)
  /-- R156 `DM(Ii, Mj) = dreg, <ALU>|<MAC>`. -/
  | dmComp (p : Pair) (r : DReg) (o : Comp)
  /-- R156 `DM(Ii, Mj) = dreg, <SHIFT>`. -/
  | dmShift (p : Pair) (r : DReg) (o : ShiftFn)
  /-- R157 `PM(Ii, Mj) = dreg, <ALU>|<MAC>`. -/
  | pmComp (p : Pair) (r : DReg) (o : Comp)
  /-- R157 `PM(Ii, Mj) = dreg, <SHIFT>`. -/
  | pmShift (p : Pair) (r : DReg) (o : ShiftFn)
  /-- R158 `<ALU>|<MAC>, dreg = dreg`. -/
  | compMove (o : Comp) (d : DReg) (r : DReg)
  /-- R158 `<SHIFT>, dreg = dreg`. -/
  | shiftMove (o : ShiftFn) (d : DReg) (r : DReg)
  deriving DecidableEq, Repr

/-- Why a program memory word is no instruction (R127). -/
inductive Reject
  /-- The word begins like no format of R129. -/
  | noFormat
  /-- The word has the format Type `n` of R129, and one of its fields holds a code that R130 and the
  operand classes give no meaning there. -/
  | reservedField (n : Nat)
  deriving DecidableEq, Repr

end Sys2Proof
end

