-- ==== Sys2Proof/Config.lean ====
section
/-! DEFINITION. The configuration: the open functions and free values of the spec, as constants
without a body (a proof holds whatever they are), and the launch parameters of spec/00_scope.md R6
as plain data with the values State.reset takes. -/

namespace Sys2Proof

/-! ### Open functions (R6; 92_eei_decisions.md D9, D11, D14, D21) -/

/-- `div_s` of R192: from `xop`, `yop` and AY0, the new AQ, AF and AY0. -/
opaque Config.divS : Word → Word → Word → Bool × Word × Word

/-- `div_q` of R193: from `xop`, AF, AY0 and AQ, the new AQ, AF and AY0. -/
opaque Config.divQ : Word → Word → Word → Bool → Bool × Word × Word

/-- `mac_round` of R230, on the adder's 40-bit result. -/
opaque Config.macRound : Acc → Acc

/-- `norm_fn` of R255: from `xop`, SE, the half and AC, the 32-bit result. -/
opaque Config.normFn : Word → BitVec Config.SEW → Half → Bool → BitVec Config.SRW

/-- `exp_fn` of R256: from `xop`, the mode, SE, SS and AV, the new SE and SS. -/
opaque Config.expFn : Word → ExpMode → BitVec Config.SEW → Bool → Bool → BitVec Config.SEW × Bool

/-- `expadj_fn` of R257: from `xop` and SB, the new SB. -/
opaque Config.expadjFn : Word → BitVec Config.SBW → BitVec Config.SBW

/-- `circ_fn` of R90: from the index, the modifier and the length, the new index. -/
opaque Config.circFn : Addr → Addr → Addr → Addr

/-- `bitrev_fn` of R91, on the address DAG1 puts out. -/
opaque Config.bitrevFn : Addr → Addr

/-! ### Free values, one for each number of `State.draws` (R10 `draw`) -/

/-- The sample of the FI pin that the draw reads (R38, U23). -/
opaque Config.fiSample : Nat → Bool

/-- The word that a read of RX0 or RX1 gives (R36, U24). -/
opaque Config.rxSample : Nat → Word

/-- What CNTR holds once it holds no value (R311, U8; log 11). -/
opaque Config.freeCntr : Nat → Addr

/-- The pending bit of a source that one IFC write both forces and clears (R383; log 17). -/
opaque Config.freePending : Nat → Bool

/-- The 24 bits a data read finds where the launch image holds a statement (D2; log 19). -/
opaque Config.stmtWord : Instr → PmBits

/-! ### Launch parameters (R6, R44, R86, R382) -/

/-- What a range of addresses holds (R86, R40). -/
inductive RegionKind
  /-- Memory. -/
  | ram
  /-- Memory-mapped control registers (R40, R394). -/
  | control
  deriving DecidableEq, Repr

/-- One range of the launch map, both ends included (R86). -/
structure Region where
  lo : Nat
  hi : Nat
  kind : RegionKind
  deriving DecidableEq, Repr

/-- How the requests of an interrupt source are taken (R30, R383). -/
inductive Sense
  | edge
  | level
  /-- Edge-sensitive exactly when this ICNTL bit is 1. -/
  | icntl (bit : Fin 5)
  deriving DecidableEq, Repr

/-- One interrupt source of `int_layout(member)` and its `int_vector` (R382). -/
structure IntSource where
  /-- Its bit in IMASK, and in the model's `pending`. -/
  bit : Fin 16
  vector : Addr
  sense : Sense
  /-- Its force bit in IFC, if it has one. -/
  force : Option (Fin 16)
  /-- Its clear bit in IFC, if it has one. -/
  clear : Option (Fin 16)
  deriving DecidableEq, Repr

/-- The launch parameters: fixed for a run (R44). -/
structure Params where
  hasAluConstants : Bool
  /-- `alu_constants`: the values a constant operand may take (R121), any words; PASS takes 0 beside
  them (R186). -/
  aluConstants : List Word
  hasFlagPins : Bool
  hasIdleN : Bool
  hasIntsInstr : Bool
  hasDma : Bool
  dmMap : List Region
  pmMap : List Region
  pcDepth : Nat
  cntrDepth : Nat
  loopDepth : Nat
  stsDepth : Nat
  imaskWidth : Nat
  ifcWidth : Nat
  /-- The sources, the highest priority first (R384). -/
  sources : List IntSource
  /-- The IMASK bit of the timer's source, if the member has one (R392). -/
  timerBit : Option (Fin 16)
  deriving DecidableEq, Repr

/-- PRESUMED (log 6): the sources of the ADSP-2181, vectors from 93_implementation_defined.md GK13,
mask, force and clear bits from the family. ICNTL marks IRQ2, IRQ1 and IRQ0 only; the other seven have
a fixed sense: IRQL1 and IRQL0 level, the SPORT0 sources, IRQE, BDMA and the timer edge. -/
def Config.sources2181 : List IntSource :=
  [ { bit := 9, vector := 0x0004, sense := .icntl 2, force := some 15, clear := some 7 },
    { bit := 8, vector := 0x0008, sense := .level, force := none, clear := none },
    { bit := 7, vector := 0x000C, sense := .level, force := none, clear := none },
    { bit := 6, vector := 0x0010, sense := .edge, force := some 14, clear := some 6 },
    { bit := 5, vector := 0x0014, sense := .edge, force := some 13, clear := some 5 },
    { bit := 4, vector := 0x0018, sense := .edge, force := some 12, clear := some 4 },
    { bit := 3, vector := 0x001C, sense := .edge, force := some 11, clear := some 3 },
    { bit := 2, vector := 0x0020, sense := .icntl 1, force := some 10, clear := some 2 },
    { bit := 1, vector := 0x0024, sense := .icntl 0, force := some 9, clear := some 1 },
    { bit := 0, vector := 0x0028, sense := .edge, force := some 8, clear := some 0 } ]

/-- DESIGN CHOICE (log 33): `alu_constants` is OPEN. The candidate of R121, 2^k and NOT 2^k for k in
0..15, with one further value for PASS, -1, since spec/opcode_table.json has a row for PASS -1. The
set is one for all the constant forms, so -1 is admitted in the add, subtract, AND, OR and XOR forms
too: R121 and R186 speak of further values for PASS only, and leave open whether the others take them. -/
def Config.aluConstants2181 : List Word :=
  [0x0001, 0x0002, 0x0004, 0x0008, 0x0010, 0x0020, 0x0040, 0x0080] ++
  [0x0100, 0x0200, 0x0400, 0x0800, 0x1000, 0x2000, 0x4000, 0x8000] ++
  [0xFFFE, 0xFFFD, 0xFFFB, 0xFFF7, 0xFFEF, 0xFFDF, 0xFFBF, 0xFF7F] ++
  [0xFEFF, 0xFDFF, 0xFBFF, 0xF7FF, 0xEFFF, 0xDFFF, 0xBFFF, 0x7FFF] ++ [0xFFFF]

/-- PRESUMED (log 4, 5, 6): the launch parameters State.reset takes, those of an ADSP-2181. The
depths of the PC, counter and loop stacks are R6's defaults. -/
def Config.adsp2181 : Params where
  hasAluConstants := true
  aluConstants := Config.aluConstants2181
  hasFlagPins := true
  hasIdleN := true
  hasIntsInstr := true
  hasDma := true
  dmMap := [{ lo := 0, hi := 0x3FDF, kind := .ram }, { lo := 0x3FE0, hi := 0x3FFF, kind := .control }]
  pmMap := [{ lo := 0, hi := 0x3FFF, kind := .ram }]
  pcDepth := 16
  cntrDepth := 4
  loopDepth := 4
  stsDepth := 12
  imaskWidth := 10
  ifcWidth := 16
  sources := Config.sources2181
  timerBit := some 0

end Sys2Proof
end

