-- ==== Sys2Proof/WellFormed.lean ====
section
/-! DEFINITION. The checks of the grammar that the terms of Syntax.lean do not already make:
spec/30_encoding.md R118, R121, R122, spec/40_multifunction.md R159, spec/41_alu.md R192,
spec/42_mac.md R221, spec/46_misc.md R341. A statement that fails one is no instruction (R127). -/

namespace Sys2Proof

/-- Both registers are of DAG1: I0-I3 with M0-M3 (R122). -/
def Pair.inDag1 (p : Pair) : Bool := decide (p.i.val < 4) && decide (p.m.val < 4)

/-- Both registers are of DAG2: I4-I7 with M4-M7 (R122). -/
def Pair.inDag2 (p : Pair) : Bool := decide (4 ≤ p.i.val) && decide (4 ≤ p.m.val)

/-- "the I and M registers must be from the same DAG" (R122). -/
def Pair.sameDag (p : Pair) : Bool := p.inDag1 || p.inDag2

/-- The `yop` of DIVS is AY1 or AF (R115, R192). -/
def YAlu.divisible : YAlu → Bool
  | .ay0 => false
  | .ay1 => true
  | .af => true

/-- The squaring forms take only (SS), (UU) and (RND) (R221, GK25). -/
def MacMod.squares : MacMod → Bool
  | .ss => true
  | .uu => true
  | .rnd => true
  | .su => false
  | .us => false

/-- A computation clause that R159 admits in every multifunction form. -/
def Comp.admitted : Comp → Bool
  | .alu _ _ => true
  | .mac (.prod _ _ _ _) _ => true
  | .mac (.square _ m _) _ => m.squares
  | .mac .zero _ => true
  | .mac .mr _ => true
  | .mac .mrRnd _ => true

/-- The note † of Table 15.2: "AR, MR result registers must be used - not AF, MF feedback
registers" (R159 (b)). -/
def Comp.notFeedback : Comp → Bool
  | .alu _ z => z == .ar
  | .mac _ z => z == .mr

/-- `reg = <data>` with a `reg` that is no `dreg`, and for TX0, TX1, RX0, RX1 a constant in
0..0x1FFF (R288, D17). -/
def Reg.takesData (v : Addr) : Reg → Bool
  | .dreg _ => false
  | .rx0 | .tx0 | .rx1 | .tx1 => decide (v.toNat ≤ 0x1FFF)
  | .i _ | .m _ | .l _ | .astat | .mstat | .sstat | .imask | .icntl | .cntr | .sb | .px | .ifc
  | .owrcntr => true

/-- 2^k or NOT 2^k for a k (R121): exactly one bit set, or exactly one bit clear. -/
def oneBit (v : Word) : Bool :=
  (List.finRange 16).any (fun k => v == (1 : Word) <<< k.val || v == ~~~((1 : Word) <<< k.val))

/-- The constant has this one spelling: 2^k is `pow`, NOT 2^k the other constructor of its form. -/
def Constant.proper : Constant → Bool
  | .pow _ => true
  | .other v => !oneBit v

/-- A constant of PASS that neither PASS 0 nor PASS -1 is (R186). -/
def Constant.passes (k : Constant) : Bool :=
  k.proper && k != .other 0 && k != .other (BitVec.allOnes Config.W)

/-- How many clauses a stack control statement has (R341). -/
def StackOps.count (o : StackOps) : Nat :=
  o.pc.toNat + o.loop.toNat + o.cntr.toNat + (if o.sts = none then 0 else 1)

/-- 1 for a clause, 0 for none (R347). -/
def Switch.count (w : Switch) : Nat := if w = .keep then 0 else 1

/-- How many clauses a mode control statement has (R347). -/
def ModeOps.count (o : ModeOps) : Nat :=
  o.timer.count + o.mMode.count + o.arSat.count + o.avLatch.count + o.bitRev.count +
    o.secReg.count + o.gMode.count

/-- The operands are in the classes of R114 to R123 and R131, so that the term is an instruction of a
word or a statement. A stack control or mode control term of ONE clause is the constructor of that
clause (log 9); one of no clause is what the words 0x0C0000 and the like stand for (log 22). -/
def Instr.wellFormed : Instr → Bool
  | .addXY _ _ _ _ => true
  | .addXC _ _ _ => true
  | .addXYC _ _ _ _ => true
  | .addXK _ _ k _ => k.proper
  | .addXKC _ _ k _ => k.proper
  | .addXNK _ _ _ _ => true
  | .addXNKC _ _ _ _ => true
  | .subXY _ _ _ _ => true
  | .subXYC _ _ _ _ => true
  | .subXC _ _ _ => true
  | .subXK _ _ k _ => k.proper
  | .subXKC _ _ k _ => k.proper
  | .subXNK _ _ _ _ => true
  | .subXNKC _ _ _ _ => true
  | .subYX _ _ _ _ => true
  | .subYXC _ _ _ _ => true
  | .negXC _ _ _ => true
  | .subKX _ _ k _ => k.proper
  | .subKXC _ _ k _ => k.proper
  | .subNKX _ _ _ _ => true
  | .subNKXC _ _ _ _ => true
  | .andXY _ _ _ _ => true
  | .andXK _ _ k _ => k.proper
  | .andXNK _ _ _ _ => true
  | .orXY _ _ _ _ => true
  | .orXK _ _ k _ => k.proper
  | .orXNK _ _ _ _ => true
  | .xorXY _ _ _ _ => true
  | .xorXK _ _ k _ => k.proper
  | .xorXNK _ _ _ _ => true
  | .tstbit _ _ _ _ => true
  | .setbit _ _ _ _ => true
  | .clrbit _ _ _ _ => true
  | .tglbit _ _ _ _ => true
  | .passX _ _ _ => true
  | .passY _ _ _ => true
  | .pass0 _ _ => true
  | .pass1 _ _ => true
  | .passM1 _ _ => true
  | .passK _ k _ => k.passes
  | .passNK _ _ _ => true
  | .negX _ _ _ => true
  | .negY _ _ _ => true
  | .notX _ _ _ => true
  | .notY _ _ _ => true
  | .absX _ _ _ => true
  | .incY _ _ _ => true
  | .decY _ _ _ => true
  | .divs y _ => y.divisible
  | .divq _ => true
  | .noneAlu _ => true
  | .mulRnd _ _ _ _ => true
  | .mulSs _ _ _ _ => true
  | .mulSu _ _ _ _ => true
  | .mulUs _ _ _ _ => true
  | .mulUu _ _ _ _ => true
  | .macRnd _ _ _ _ => true
  | .macSs _ _ _ _ => true
  | .macSu _ _ _ _ => true
  | .macUs _ _ _ _ => true
  | .macUu _ _ _ _ => true
  | .msubRnd _ _ _ _ => true
  | .msubSs _ _ _ _ => true
  | .msubSu _ _ _ _ => true
  | .msubUs _ _ _ _ => true
  | .msubUu _ _ _ _ => true
  | .square _ _ m _ _ => m.squares
  | .mrZero _ _ => true
  | .mrMr _ _ => true
  | .mrMrRnd _ _ => true
  | .satMr => true
  | .ashift _ _ _ _ => true
  | .lshift _ _ _ _ => true
  | .norm _ _ _ _ => true
  | .expHi _ _ => true
  | .expHix _ _ => true
  | .expLo _ _ => true
  | .expadj _ _ => true
  | .ashiftImm _ _ _ _ => true
  | .lshiftImm _ _ _ _ => true
  | .regReg _ _ => true
  | .regDmAddr _ _ => true
  | .dregDm _ p => p.sameDag
  | .dmDreg p _ => p.sameDag
  | .dmData p _ => p.sameDag
  | .dmAddrReg _ _ => true
  | .dregData _ _ => true
  | .regData d v => d.takesData v
  | .dregPm _ p => p.inDag2
  | .pmDreg p _ => p.inDag2
  | .jumpAddr _ _ => true
  | .jumpInd _ _ => true
  | .jumpFlag _ _ => true
  | .callAddr _ _ => true
  | .callInd _ _ => true
  | .callFlag _ _ => true
  | .rts _ => true
  | .rti _ => true
  | .doUntil _ _ => true
  | .idle => true
  | .idleN _ => true
  | .nop => true
  | .stackControl o => decide (2 ≤ o.count)
  | .pushSts => true
  | .popSts => true
  | .popCntr => true
  | .popPc => true
  | .popLoop => true
  | .modeControl o => decide (o.count ≠ 1)
  | .enaTimer => true
  | .disTimer => true
  | .enaMMode => true
  | .disMMode => true
  | .enaArSat => true
  | .disArSat => true
  | .enaAvLatch => true
  | .disAvLatch => true
  | .enaBitRev => true
  | .disBitRev => true
  | .enaSecReg => true
  | .disSecReg => true
  | .enaGMode => true
  | .disGMode => true
  | .modify p => p.sameDag
  | .flagOut _ _ => true
  | .enaInts => true
  | .disInts => true
  | .compDmPm o _ p _ q => o.admitted && o.notFeedback && p.inDag1 && q.inDag2
  | .dualRead _ p _ q => p.inDag1 && q.inDag2
  | .compDm o _ p => o.admitted && p.sameDag
  | .shiftDm _ _ p => p.sameDag
  | .compPm o _ p => o.admitted && p.inDag2
  | .shiftPm _ _ p => p.inDag2
  | .dmComp p _ o => o.admitted && p.sameDag
  | .dmShift p _ _ => p.sameDag
  | .pmComp p _ o => o.admitted && p.inDag2
  | .pmShift p _ _ => p.inDag2
  | .compMove o _ _ => o.admitted
  | .shiftMove _ _ _ => true

/-- A register of Table 15.7; OWRCNTR is a code of the annex alone (R130, log 18). -/
def Reg.named (r : Reg) : Bool := r != .owrcntr

/-- The flag out statement names a pin (R357). -/
def FlagOps.names (o : FlagOps) : Bool :=
  (o.fo != .keep) || (o.fl0 != .keep) || (o.fl1 != .keep) || (o.fl2 != .keep)

/-- What the grammar of R113 asks of a statement beyond `Instr.wellFormed`: registers of Table 15.7, at
least one mode (R347), at least one pin (R357). A word may still stand for a term that fails this, by
the codes of R130 (log 18, 22). -/
def Instr.derived : Instr → Bool
  | .regReg d r => d.named && r.named
  | .regDmAddr d _ => d.named
  | .dmAddrReg _ r => r.named
  | .regData d _ => d.named
  | .modeControl o => decide (o.count ≠ 0)
  | .flagOut o _ => o.names
  | .addXY .. | .addXC .. | .addXYC .. | .addXK .. | .addXKC .. | .addXNK .. | .addXNKC ..
  | .subXY .. | .subXYC .. | .subXC .. | .subXK .. | .subXKC .. | .subXNK .. | .subXNKC ..
  | .subYX .. | .subYXC .. | .negXC .. | .subKX .. | .subKXC .. | .subNKX .. | .subNKXC ..
  | .andXY .. | .andXK .. | .andXNK .. | .orXY .. | .orXK .. | .orXNK .. | .xorXY .. | .xorXK ..
  | .xorXNK .. | .tstbit .. | .setbit .. | .clrbit .. | .tglbit .. | .passX .. | .passY ..
  | .pass0 .. | .pass1 .. | .passM1 .. | .passK .. | .passNK .. | .negX .. | .negY .. | .notX ..
  | .notY .. | .absX .. | .incY .. | .decY .. | .divs .. | .divq .. | .noneAlu .. | .mulRnd ..
  | .mulSs .. | .mulSu .. | .mulUs .. | .mulUu .. | .macRnd .. | .macSs .. | .macSu ..
  | .macUs .. | .macUu .. | .msubRnd .. | .msubSs .. | .msubSu .. | .msubUs .. | .msubUu ..
  | .square .. | .mrZero .. | .mrMr .. | .mrMrRnd .. | .satMr .. | .ashift .. | .lshift ..
  | .norm .. | .expHi .. | .expHix .. | .expLo .. | .expadj .. | .ashiftImm .. | .lshiftImm ..
  | .dregDm .. | .dmDreg .. | .dmData .. | .dregData .. | .dregPm .. | .pmDreg .. | .jumpAddr ..
  | .jumpInd .. | .jumpFlag .. | .callAddr .. | .callInd .. | .callFlag .. | .rts .. | .rti ..
  | .doUntil .. | .idle .. | .idleN .. | .nop .. | .stackControl .. | .pushSts .. | .popSts ..
  | .popCntr .. | .popPc .. | .popLoop .. | .enaTimer .. | .disTimer .. | .enaMMode ..
  | .disMMode .. | .enaArSat .. | .disArSat .. | .enaAvLatch .. | .disAvLatch .. | .enaBitRev ..
  | .disBitRev .. | .enaSecReg .. | .disSecReg .. | .enaGMode .. | .disGMode .. | .modify ..
  | .enaInts .. | .disInts .. | .compDmPm .. | .dualRead .. | .compDm .. | .shiftDm ..
  | .compPm .. | .shiftPm .. | .dmComp .. | .dmShift .. | .pmComp .. | .pmShift .. | .compMove ..
  | .shiftMove .. => true

/-- The term is a statement that the grammar of R113 derives; any other is `not an instruction` where
the launch image holds statements (R127, D2). -/
def Instr.inGrammar (i : Instr) : Bool := i.wellFormed && i.derived

end Sys2Proof
end

