-- ==== Sys2Proof/Decode.lean ====
section
/-! DEFINITION. The decoder and the encoder of the 24-bit instruction words: the general-knowledge
annex of spec/30_encoding.md R129 (formats) and R130 (field codes), row by row as in
spec/opcode_table.json. Every code here is PRESUMED (log 8): the spec marks the whole annex so. -/

namespace Sys2Proof

/-- Bits `lo + n - 1 .. lo` of a word. -/
def field (w lo n : Nat) : Nat := w / 2 ^ lo % 2 ^ n

/-- One bit as a number. -/
def bitCode (b : Bool) : Nat := if b then 1 else 0

/-- One bit from a number. -/
def bitOf (n : Nat) : Bool := n == 1

/-! ### Field codes (R130) -/

/-- The code of XAlu (R130). -/
def XAlu.code : XAlu → Nat
  | .ax0 => 0
  | .ax1 => 1
  | .ar => 2
  | .mr0 => 3
  | .mr1 => 4
  | .mr2 => 5
  | .sr0 => 6
  | .sr1 => 7

/-- The XAlu a code stands for (R130). -/
def XAlu.ofCode : Nat → Option XAlu
  | 0 => some .ax0
  | 1 => some .ax1
  | 2 => some .ar
  | 3 => some .mr0
  | 4 => some .mr1
  | 5 => some .mr2
  | 6 => some .sr0
  | 7 => some .sr1
  | _ => none

/-- The code of XMac (R130). -/
def XMac.code : XMac → Nat
  | .mx0 => 0
  | .mx1 => 1
  | .ar => 2
  | .mr0 => 3
  | .mr1 => 4
  | .mr2 => 5
  | .sr0 => 6
  | .sr1 => 7

/-- The XMac a code stands for (R130). -/
def XMac.ofCode : Nat → Option XMac
  | 0 => some .mx0
  | 1 => some .mx1
  | 2 => some .ar
  | 3 => some .mr0
  | 4 => some .mr1
  | 5 => some .mr2
  | 6 => some .sr0
  | 7 => some .sr1
  | _ => none

/-- The code of XShift (R130). -/
def XShift.code : XShift → Nat
  | .si => 0
  | .sr1 => 1
  | .sr0 => 2
  | .ar => 4
  | .mr0 => 5
  | .mr1 => 6
  | .mr2 => 7

/-- The XShift a code stands for (R130). -/
def XShift.ofCode : Nat → Option XShift
  | 0 => some .si
  | 1 => some .sr1
  | 2 => some .sr0
  | 4 => some .ar
  | 5 => some .mr0
  | 6 => some .mr1
  | 7 => some .mr2
  | _ => none

/-- The code of YAlu (R130). -/
def YAlu.code : YAlu → Nat
  | .ay0 => 0
  | .ay1 => 1
  | .af => 2

/-- The YAlu a code stands for (R130). -/
def YAlu.ofCode : Nat → Option YAlu
  | 0 => some .ay0
  | 1 => some .ay1
  | 2 => some .af
  | _ => none

/-- The code of YMac (R130). -/
def YMac.code : YMac → Nat
  | .my0 => 0
  | .my1 => 1
  | .mf => 2

/-- The YMac a code stands for (R130). -/
def YMac.ofCode : Nat → Option YMac
  | 0 => some .my0
  | 1 => some .my1
  | 2 => some .mf
  | _ => none

/-- The code of XDual (R130). -/
def XDual.code : XDual → Nat
  | .ax0 => 0
  | .ax1 => 1
  | .mx0 => 2
  | .mx1 => 3

/-- The XDual a code stands for (R130). -/
def XDual.ofCode : Nat → Option XDual
  | 0 => some .ax0
  | 1 => some .ax1
  | 2 => some .mx0
  | 3 => some .mx1
  | _ => none

/-- The code of YDual (R130). -/
def YDual.code : YDual → Nat
  | .ay0 => 0
  | .ay1 => 1
  | .my0 => 2
  | .my1 => 3

/-- The YDual a code stands for (R130). -/
def YDual.ofCode : Nat → Option YDual
  | 0 => some .ay0
  | 1 => some .ay1
  | 2 => some .my0
  | 3 => some .my1
  | _ => none

/-- The code of DReg (R130). -/
def DReg.code : DReg → Nat
  | .ax0 => 0
  | .ax1 => 1
  | .mx0 => 2
  | .mx1 => 3
  | .ay0 => 4
  | .ay1 => 5
  | .my0 => 6
  | .my1 => 7
  | .si => 8
  | .se => 9
  | .ar => 10
  | .mr0 => 11
  | .mr1 => 12
  | .mr2 => 13
  | .sr0 => 14
  | .sr1 => 15

/-- The DReg a code stands for (R130). -/
def DReg.ofCode : Nat → Option DReg
  | 0 => some .ax0
  | 1 => some .ax1
  | 2 => some .mx0
  | 3 => some .mx1
  | 4 => some .ay0
  | 5 => some .ay1
  | 6 => some .my0
  | 7 => some .my1
  | 8 => some .si
  | 9 => some .se
  | 10 => some .ar
  | 11 => some .mr0
  | 12 => some .mr1
  | 13 => some .mr2
  | 14 => some .sr0
  | 15 => some .sr1
  | _ => none

/-- The code of Cond (R130). -/
def Cond.code : Cond → Nat
  | .eq => 0
  | .ne => 1
  | .gt => 2
  | .le => 3
  | .lt => 4
  | .ge => 5
  | .av => 6
  | .notAv => 7
  | .ac => 8
  | .notAc => 9
  | .neg => 10
  | .pos => 11
  | .mv => 12
  | .notMv => 13
  | .notCe => 14
  | .always => 15

/-- The Cond a code stands for (R130). -/
def Cond.ofCode : Nat → Option Cond
  | 0 => some .eq
  | 1 => some .ne
  | 2 => some .gt
  | 3 => some .le
  | 4 => some .lt
  | 5 => some .ge
  | 6 => some .av
  | 7 => some .notAv
  | 8 => some .ac
  | 9 => some .notAc
  | 10 => some .neg
  | 11 => some .pos
  | 12 => some .mv
  | 13 => some .notMv
  | 14 => some .notCe
  | 15 => some .always
  | _ => none

/-- The code of Term (R130). -/
def Term.code : Term → Nat
  | .ne => 0
  | .eq => 1
  | .le => 2
  | .gt => 3
  | .ge => 4
  | .lt => 5
  | .notAv => 6
  | .av => 7
  | .notAc => 8
  | .ac => 9
  | .pos => 10
  | .neg => 11
  | .notMv => 12
  | .mv => 13
  | .ce => 14
  | .forever => 15

/-- The Term a code stands for (R130). -/
def Term.ofCode : Nat → Option Term
  | 0 => some .ne
  | 1 => some .eq
  | 2 => some .le
  | 3 => some .gt
  | 4 => some .ge
  | 5 => some .lt
  | 6 => some .notAv
  | 7 => some .av
  | 8 => some .notAc
  | 9 => some .ac
  | 10 => some .pos
  | 11 => some .neg
  | 12 => some .notMv
  | 13 => some .mv
  | 14 => some .ce
  | 15 => some .forever
  | _ => none

/-- The code of AluDest (R130). -/
def AluDest.code : AluDest → Nat
  | .ar => 0
  | .af => 1

/-- The AluDest a code stands for (R130). -/
def AluDest.ofCode : Nat → Option AluDest
  | 0 => some .ar
  | 1 => some .af
  | _ => none

/-- The code of MacDest (R130). -/
def MacDest.code : MacDest → Nat
  | .mr => 0
  | .mf => 1

/-- The MacDest a code stands for (R130). -/
def MacDest.ofCode : Nat → Option MacDest
  | 0 => some .mr
  | 1 => some .mf
  | _ => none

/-- The code of IdleDiv (R130). -/
def IdleDiv.code : IdleDiv → Nat
  | .n16 => 1
  | .n32 => 2
  | .n64 => 4
  | .n128 => 8

/-- The IdleDiv a code stands for (R130). -/
def IdleDiv.ofCode : Nat → Option IdleDiv
  | 1 => some .n16
  | 2 => some .n32
  | 4 => some .n64
  | 8 => some .n128
  | _ => none

/-- The code of FlagOp (R130). -/
def FlagOp.code : FlagOp → Nat
  | .keep => 0
  | .toggle => 1
  | .reset => 2
  | .set => 3

/-- The FlagOp a code stands for (R130). -/
def FlagOp.ofCode : Nat → Option FlagOp
  | 0 => some .keep
  | 1 => some .toggle
  | 2 => some .reset
  | 3 => some .set
  | _ => none

/-- The code of Half (R130). -/
def Half.code : Half → Nat
  | .hi => 0
  | .lo => 1

/-- The Half a code stands for (R130). -/
def Half.ofCode : Nat → Option Half
  | 0 => some .hi
  | 1 => some .lo
  | _ => none

/-- The 2-bit field of a mode (R130): 11 ENA, 10 DIS, 00 no change. -/
def Switch.code : Switch → Nat
  | .keep => 0
  | .dis => 2
  | .ena => 3

/-- What the 2-bit field of a mode says (R130): 00 and 01 no change. -/
def Switch.ofCode (n : Nat) : Switch := if n = 3 then .ena else if n = 2 then .dis else .keep

/-- The RGP and REG codes of a register (R130). -/
def Reg.code : Reg → Nat × Nat
  | .dreg d => (0, d.code)
  | .i n => (if n.val < 4 then 1 else 2, n.val % 4)
  | .m n => (if n.val < 4 then 1 else 2, 4 + n.val % 4)
  | .l n => (if n.val < 4 then 1 else 2, 8 + n.val % 4)
  | .astat => (3, 0)
  | .mstat => (3, 1)
  | .sstat => (3, 2)
  | .imask => (3, 3)
  | .icntl => (3, 4)
  | .cntr => (3, 5)
  | .sb => (3, 6)
  | .px => (3, 7)
  | .rx0 => (3, 8)
  | .tx0 => (3, 9)
  | .rx1 => (3, 10)
  | .tx1 => (3, 11)
  | .ifc => (3, 12)
  | .owrcntr => (3, 13)

/-- The register with number `n` modulo 4 of the DAG that `base` (0 or 4) begins. -/
def dagReg (base n : Nat) : Fin 8 := Fin.ofNat 8 (base + n % 4)

/-- The I, M or L register of a REG code in the group of one DAG (R130). -/
def dagGroup (base r : Nat) : Option Reg :=
  if r < 4 then some (.i (dagReg base r))
  else if r < 8 then some (.m (dagReg base r))
  else if r < 12 then some (.l (dagReg base r))
  else none

/-- The register of RGP 11 (R130). -/
def controlGroup : Nat → Option Reg
  | 0 => some .astat
  | 1 => some .mstat
  | 2 => some .sstat
  | 3 => some .imask
  | 4 => some .icntl
  | 5 => some .cntr
  | 6 => some .sb
  | 7 => some .px
  | 8 => some .rx0
  | 9 => some .tx0
  | 10 => some .rx1
  | 11 => some .tx1
  | 12 => some .ifc
  | 13 => some .owrcntr
  | _ => none

/-- The register of an RGP and a REG code (R130). -/
def Reg.ofCode (g r : Nat) : Option Reg :=
  if g = 0 then (DReg.ofCode r).map .dreg
  else if g = 1 then dagGroup 0 r
  else if g = 2 then dagGroup 4 r
  else controlGroup r

/-- An `(I, M)` pair from the G bit and the two numbers within the DAG (R130). -/
def pairOf (g i m : Nat) : Pair := { i := dagReg (4 * g) i, m := dagReg (4 * g) m }

/-- The G bit of a pair. -/
def Pair.g (p : Pair) : Nat := if p.i.val < 4 then 0 else 1

/-- The I and M fields of a pair, the low four bits of a format that has them. -/
def Pair.low (p : Pair) : Nat := p.i.val % 4 * 4 + p.m.val % 4

/-! ### Function codes (R130) -/

/-- AMF, YOP and XOP of an ALU expression; a field the annex leaves free is 0. -/
def AluFn.code : AluFn → Nat × Nat × Nat
  | .passY y => (16, y.code, 0)
  | .incY y => (17, y.code, 0)
  | .xPlusYC x y => (18, y.code, x.code)
  | .xPlusC x => (18, 3, x.code)
  | .xPlusY x y => (19, y.code, x.code)
  | .passX x => (19, 3, x.code)
  | .notY y => (20, y.code, 0)
  | .negY y => (21, y.code, 0)
  | .xMinusYB x y => (22, y.code, x.code)
  | .xB x => (22, 3, x.code)
  | .xMinusY x y => (23, y.code, x.code)
  | .decY y => (24, y.code, 0)
  | .yMinusX x y => (25, y.code, x.code)
  | .negX x => (25, 3, x.code)
  | .yMinusXB x y => (26, y.code, x.code)
  | .negXB x => (26, 3, x.code)
  | .notX x => (27, 0, x.code)
  | .land x y => (28, y.code, x.code)
  | .lor x y => (29, y.code, x.code)
  | .lxor x y => (30, y.code, x.code)
  | .absX x => (31, 0, x.code)

/-- The ALU expression of the fields AMF, YOP and XOP. -/
def AluFn.ofCode (amf y x : Nat) : Option AluFn := do
  let xr ← XAlu.ofCode x
  if y = 3 then
    match amf with
    | 18 => some (.xPlusC xr)
    | 19 => some (.passX xr)
    | 22 => some (.xB xr)
    | 25 => some (.negX xr)
    | 26 => some (.negXB xr)
    | 27 => some (.notX xr)
    | 31 => some (.absX xr)
    | _ => none
  else do
    let yr ← YAlu.ofCode y
    match amf with
    | 16 => some (.passY yr)
    | 17 => some (.incY yr)
    | 18 => some (.xPlusYC xr yr)
    | 19 => some (.xPlusY xr yr)
    | 20 => some (.notY yr)
    | 21 => some (.negY yr)
    | 22 => some (.xMinusYB xr yr)
    | 23 => some (.xMinusY xr yr)
    | 24 => some (.decY yr)
    | 25 => some (.yMinusX xr yr)
    | 26 => some (.yMinusXB xr yr)
    | 27 => some (.notX xr)
    | 28 => some (.land xr yr)
    | 29 => some (.lor xr yr)
    | 30 => some (.lxor xr yr)
    | 31 => some (.absX xr)
    | _ => none

/-- The AMF code of a product. -/
def macCode : MacKind → MacMod → Nat
  | .mul, .rnd => 1
  | .mac, .rnd => 2
  | .msub, .rnd => 3
  | .mul, .ss => 4
  | .mul, .su => 5
  | .mul, .us => 6
  | .mul, .uu => 7
  | .mac, .ss => 8
  | .mac, .su => 9
  | .mac, .us => 10
  | .mac, .uu => 11
  | .msub, .ss => 12
  | .msub, .su => 13
  | .msub, .us => 14
  | .msub, .uu => 15

/-- The product of an AMF code. -/
def macOf : Nat → Option (MacKind × MacMod)
  | 1 => some (.mul, .rnd)
  | 2 => some (.mac, .rnd)
  | 3 => some (.msub, .rnd)
  | 4 => some (.mul, .ss)
  | 5 => some (.mul, .su)
  | 6 => some (.mul, .us)
  | 7 => some (.mul, .uu)
  | 8 => some (.mac, .ss)
  | 9 => some (.mac, .su)
  | 10 => some (.mac, .us)
  | 11 => some (.mac, .uu)
  | 12 => some (.msub, .ss)
  | 13 => some (.msub, .su)
  | 14 => some (.msub, .us)
  | 15 => some (.msub, .uu)
  | _ => none

/-- AMF, YOP and XOP of a MAC expression; the annex has no word for a squaring form. -/
def MacFn.code : MacFn → Option (Nat × Nat × Nat)
  | .prod n m x y => some (macCode n m, y.code, x.code)
  | .square _ _ _ => none
  | .zero => some (4, 3, 0)
  | .mr => some (8, 3, 0)
  | .mrRnd => some (2, 3, 0)

/-- The MAC expression of the fields AMF, YOP and XOP. -/
def MacFn.ofCode (amf y x : Nat) : Option MacFn :=
  if y = 3 then
    match amf with
    | 4 => some .zero
    | 8 => some .mr
    | 2 => some .mrRnd
    | _ => none
  else do
    let (n, m) ← macOf amf
    let yr ← YMac.ofCode y
    let xr ← XMac.ofCode x
    some (.prod n m xr yr)

/-- Z, AMF, YOP and XOP of a computation clause. -/
def Comp.code : Comp → Option (Nat × Nat × Nat × Nat)
  | .alu f z => some (z.code, f.code)
  | .mac f z => f.code.map (fun c => (z.code, c))

/-- The computation clause of the fields Z, AMF, YOP and XOP. -/
def Comp.ofCode (z amf y x : Nat) : Option Comp :=
  if amf < 16 then do
    let f ← MacFn.ofCode amf y x
    let d ← MacDest.ofCode z
    some (.mac f d)
  else do
    let f ← AluFn.ofCode amf y x
    let d ← AluDest.ofCode z
    some (.alu f d)

/-- The first SF code of a shift. -/
def ShiftKind.code : ShiftKind → Nat
  | .lshift => 0
  | .ashift => 4
  | .norm => 8

/-- SF and XOP of a Shifter computation. -/
def ShiftFn.code : ShiftFn → Nat × Nat
  | .shift n o h x => (n.code + 2 * h.code + bitCode o, x.code)
  | .exp .hi x => (12, x.code)
  | .exp .hix x => (13, x.code)
  | .exp .lo x => (14, x.code)
  | .expadj x => (15, x.code)

/-- The Shifter computation of the fields SF and XOP. -/
def ShiftFn.ofCode (sf x : Nat) : Option ShiftFn := do
  let xr ← XShift.ofCode x
  let h ← Half.ofCode (sf / 2 % 2)
  let o := bitOf (sf % 2)
  match sf / 4 with
  | 0 => some (.shift .lshift o h xr)
  | 1 => some (.shift .ashift o h xr)
  | 2 => some (.shift .norm o h xr)
  | 3 =>
    match sf % 4 with
    | 0 => some (.exp .hi xr)
    | 1 => some (.exp .hix xr)
    | 2 => some (.exp .lo xr)
    | _ => some (.expadj xr)
  | _ => none

/-- The SPP field of a stack control statement. -/
def stsCode : Option StsOp → Nat
  | none => 0
  | some .push => 2
  | some .pop => 3

/-- What the SPP field says: 00 and 01 no status stack operation. -/
def stsOf (n : Nat) : Option StsOp :=
  if n = 2 then some .push else if n = 3 then some .pop else none

/-! ### The conditional statements of Type 9 and Type 16 -/

/-- The conditional instruction of an ALU expression. -/
def AluFn.instr (z : AluDest) (c : Cond) : AluFn → Instr
  | .xPlusY x y => .addXY z x y c
  | .xPlusC x => .addXC z x c
  | .xPlusYC x y => .addXYC z x y c
  | .xMinusY x y => .subXY z x y c
  | .xMinusYB x y => .subXYC z x y c
  | .xB x => .subXC z x c
  | .yMinusX x y => .subYX z x y c
  | .yMinusXB x y => .subYXC z x y c
  | .negXB x => .negXC z x c
  | .land x y => .andXY z x y c
  | .lor x y => .orXY z x y c
  | .lxor x y => .xorXY z x y c
  | .passX x => .passX z x c
  | .passY y => .passY z y c
  | .negX x => .negX z x c
  | .negY y => .negY z y c
  | .notX x => .notX z x c
  | .notY y => .notY z y c
  | .absX x => .absX z x c
  | .incY y => .incY z y c
  | .decY y => .decY z y c

/-- The conditional instruction of a MAC expression. -/
def MacFn.instr (z : MacDest) (c : Cond) : MacFn → Instr
  | .prod .mul .rnd x y => .mulRnd z x y c
  | .prod .mul .ss x y => .mulSs z x y c
  | .prod .mul .su x y => .mulSu z x y c
  | .prod .mul .us x y => .mulUs z x y c
  | .prod .mul .uu x y => .mulUu z x y c
  | .prod .mac .rnd x y => .macRnd z x y c
  | .prod .mac .ss x y => .macSs z x y c
  | .prod .mac .su x y => .macSu z x y c
  | .prod .mac .us x y => .macUs z x y c
  | .prod .mac .uu x y => .macUu z x y c
  | .prod .msub .rnd x y => .msubRnd z x y c
  | .prod .msub .ss x y => .msubSs z x y c
  | .prod .msub .su x y => .msubSu z x y c
  | .prod .msub .us x y => .msubUs z x y c
  | .prod .msub .uu x y => .msubUu z x y c
  | .square n m x => .square z n m x c
  | .zero => .mrZero z c
  | .mr => .mrMr z c
  | .mrRnd => .mrMrRnd z c

/-- The conditional instruction of a Shifter computation. -/
def ShiftFn.instr (c : Cond) : ShiftFn → Instr
  | .shift .ashift o h x => .ashift o x h c
  | .shift .lshift o h x => .lshift o x h c
  | .shift .norm o h x => .norm o x h c
  | .exp .hi x => .expHi x c
  | .exp .hix x => .expHix x c
  | .exp .lo x => .expLo x c
  | .expadj x => .expadj x c

/-- The `PASS 0`, `PASS 1` and `PASS -1` words: AMF with YOP = 11 (R130). -/
def passConstOf (amf : Nat) (z : AluDest) (c : Cond) : Option Instr :=
  match amf with
  | 16 => some (.pass0 z c)
  | 17 => some (.pass1 z c)
  | 24 => some (.passM1 z c)
  | _ => none

/-- The constant forms of Type 9 with BO = 01, the constant 2^k (R130). DESIGN CHOICE (log 9): the words
of TSTBIT, SETBIT and TGLBIT are those of AND, OR and XOR here, and decode to these. -/
def bitConstOf (amf : Nat) (z : AluDest) (x : XAlu) (k : Bit) (c : Cond) : Option Instr :=
  match amf with
  | 16 => some (.passK z (.pow k) c)
  | 18 => some (.addXKC z x (.pow k) c)
  | 19 => some (.addXK z x (.pow k) c)
  | 22 => some (.subXKC z x (.pow k) c)
  | 23 => some (.subXK z x (.pow k) c)
  | 25 => some (.subKX z x (.pow k) c)
  | 26 => some (.subKXC z x (.pow k) c)
  | 28 => some (.andXK z x (.pow k) c)
  | 29 => some (.orXK z x (.pow k) c)
  | 30 => some (.xorXK z x (.pow k) c)
  | _ => none

/-- The constant forms of Type 9 with BO = 11, the constant NOT 2^k (R130). DESIGN CHOICE (log 9): the
word of CLRBIT is that of AND here, and decodes to it. -/
def notBitConstOf (amf : Nat) (z : AluDest) (x : XAlu) (k : Bit) (c : Cond) : Option Instr :=
  match amf with
  | 16 => some (.passNK z k c)
  | 18 => some (.addXNKC z x k c)
  | 19 => some (.addXNK z x k c)
  | 22 => some (.subXNKC z x k c)
  | 23 => some (.subXNK z x k c)
  | 25 => some (.subNKX z x k c)
  | 26 => some (.subNKXC z x k c)
  | 28 => some (.andXNK z x k c)
  | 29 => some (.orXNK z x k c)
  | 30 => some (.xorXNK z x k c)
  | _ => none

/-! ### The formats (R129) -/

/-- Type 1: `11` PD DD AMF YOP XOP PMI PMM DMI DMM; the two reads alone when AMF = 00000, whatever YOP
and XOP hold (R129; log 8). -/
def type1 (w : Nat) : Option Instr := do
  let d ← XDual.ofCode (field w 18 2)
  let e ← YDual.ofCode (field w 20 2)
  let p := pairOf 0 (field w 2 2) (field w 0 2)
  let q := pairOf 1 (field w 6 2) (field w 4 2)
  if field w 13 5 = 0 then some (.dualRead d p e q)
  else do
    let o ← Comp.ofCode 0 (field w 13 5) (field w 11 2) (field w 8 3)
    some (.compDmPm o d p e q)

/-- Type 2: `101` G DATA I M. -/
def type2 (w : Nat) : Option Instr :=
  some (.dmData (pairOf (field w 20 1) (field w 2 2) (field w 0 2)) (BitVec.ofNat Config.W (field w 4 16)))

/-- Type 3: `100` D RGP ADDR REG. -/
def type3 (w : Nat) : Option Instr := do
  let r ← Reg.ofCode (field w 18 2) (field w 0 4)
  let a := BitVec.ofNat Config.AW (field w 4 14)
  if field w 20 1 = 0 then some (.regDmAddr r a) else some (.dmAddrReg a r)

/-- Type 4: `011` G D Z AMF YOP XOP DREG I M; the move alone when AMF = 00000, whatever Z, YOP and XOP
hold (R129; log 8). -/
def type4 (w : Nat) : Option Instr := do
  let p := pairOf (field w 20 1) (field w 2 2) (field w 0 2)
  let d ← DReg.ofCode (field w 4 4)
  if field w 13 5 = 0 then
    if field w 19 1 = 0 then some (.dregDm d p) else some (.dmDreg p d)
  else do
    let o ← Comp.ofCode (field w 18 1) (field w 13 5) (field w 11 2) (field w 8 3)
    if field w 19 1 = 0 then some (.compDm o d p) else some (.dmComp p d o)

/-- Type 5: `0101` D Z AMF YOP XOP DREG I M; the move alone when AMF = 00000, whatever Z, YOP and XOP
hold (R129; log 8). -/
def type5 (w : Nat) : Option Instr := do
  let p := pairOf 1 (field w 2 2) (field w 0 2)
  let d ← DReg.ofCode (field w 4 4)
  if field w 13 5 = 0 then
    if field w 19 1 = 0 then some (.dregPm d p) else some (.pmDreg p d)
  else do
    let o ← Comp.ofCode (field w 18 1) (field w 13 5) (field w 11 2) (field w 8 3)
    if field w 19 1 = 0 then some (.compPm o d p) else some (.pmComp p d o)

/-- Type 6: `0100` DATA DREG. -/
def type6 (w : Nat) : Option Instr := do
  let d ← DReg.ofCode (field w 0 4)
  some (.dregData d (BitVec.ofNat Config.W (field w 4 16)))

/-- Type 7: `0011` RGP DATA REG, the register one that takes the constant (R288). -/
def type7 (w : Nat) : Option Instr := do
  let r ← Reg.ofCode (field w 18 2) (field w 0 4)
  let v := BitVec.ofNat Config.AW (field w 4 14)
  if r.takesData v then some (.regData r v) else none

/-- Type 8: `00101` Z AMF YOP XOP DDREG SDREG, AMF not 0 (the constraint of its row in the
opcode table). -/
def type8 (w : Nat) : Option Instr := do
  let o ← Comp.ofCode (field w 18 1) (field w 13 5) (field w 11 2) (field w 8 3)
  let d ← DReg.ofCode (field w 4 4)
  let r ← DReg.ofCode (field w 0 4)
  some (.compMove o d r)

/-- Type 9: `00100` Z AMF YOP XOP `0000` COND, or with YY, CC and BO a constant form. DESIGN CHOICE: a
word with AMF = 00000, to which R129 gives a form in Types 1, 4 and 5 only, is unknown here (log 8); a
bit operation's word is the constant form's, which a member runs only where `alu_constants` has the
constant (log 9). -/
def type9 (w : Nat) : Option Instr := do
  let c ← Cond.ofCode (field w 0 4)
  let z ← AluDest.ofCode (field w 18 1)
  if field w 4 4 = 0 then
    if field w 13 5 < 16 then do
      let f ← MacFn.ofCode (field w 13 5) (field w 11 2) (field w 8 3)
      let d ← MacDest.ofCode (field w 18 1)
      some (f.instr d c)
    else
      match AluFn.ofCode (field w 13 5) (field w 11 2) (field w 8 3) with
      | some f => some (f.instr z c)
      | none => if field w 11 2 = 3 then passConstOf (field w 13 5) z c else none
  else do
    let x ← XAlu.ofCode (field w 8 3)
    let k : Bit := Fin.ofNat 16 (field w 11 2 * 4 + field w 6 2)
    if field w 4 2 = 1 then bitConstOf (field w 13 5) z x k c
    else if field w 4 2 = 3 then notBitConstOf (field w 13 5) z x k c
    else none

/-- Type 10: `00011` S ADDR COND. -/
def type10 (w : Nat) : Option Instr := do
  let c ← Cond.ofCode (field w 0 4)
  let a := BitVec.ofNat Config.AW (field w 4 14)
  if field w 18 1 = 0 then some (.jumpAddr a c) else some (.callAddr a c)

/-- Type 11: `000101` ADDR TERM. -/
def type11 (w : Nat) : Option Instr := do
  let t ← Term.ofCode (field w 0 4)
  some (.doUntil (BitVec.ofNat Config.AW (field w 4 14)) t)

/-- Type 12: `0001001` G D SF XOP DREG I M. -/
def type12 (w : Nat) : Option Instr := do
  let p := pairOf (field w 16 1) (field w 2 2) (field w 0 2)
  let d ← DReg.ofCode (field w 4 4)
  let o ← ShiftFn.ofCode (field w 11 4) (field w 8 3)
  if field w 15 1 = 0 then some (.shiftDm o d p) else some (.dmShift p d o)

/-- Type 13: `00010001` D SF XOP DREG I M. -/
def type13 (w : Nat) : Option Instr := do
  let p := pairOf 1 (field w 2 2) (field w 0 2)
  let d ← DReg.ofCode (field w 4 4)
  let o ← ShiftFn.ofCode (field w 11 4) (field w 8 3)
  if field w 15 1 = 0 then some (.shiftPm o d p) else some (.pmShift p d o)

/-- Type 14: `000100000` SF XOP DDREG SDREG. -/
def type14 (w : Nat) : Option Instr := do
  let o ← ShiftFn.ofCode (field w 11 4) (field w 8 3)
  let d ← DReg.ofCode (field w 4 4)
  let r ← DReg.ofCode (field w 0 4)
  some (.shiftMove o d r)

/-- Type 15: `000011110` SF XOP EXP, SF of ASHIFT or LSHIFT. -/
def type15 (w : Nat) : Option Instr := do
  let x ← XShift.ofCode (field w 8 3)
  let h ← Half.ofCode (field w 12 1)
  let e := BitVec.ofNat 8 (field w 0 8)
  match field w 13 2 with
  | 0 => some (.lshiftImm (bitOf (field w 11 1)) x e h)
  | 1 => some (.ashiftImm (bitOf (field w 11 1)) x e h)
  | _ => none

/-- Type 16: `000011100` SF XOP `0000` COND. -/
def type16 (w : Nat) : Option Instr := do
  let c ← Cond.ofCode (field w 0 4)
  let f ← ShiftFn.ofCode (field w 11 4) (field w 8 3)
  if field w 4 4 = 0 then some (f.instr c) else none

/-- Type 17: `000011010000` DRGP SRGP DREG SREG. -/
def type17 (w : Nat) : Option Instr := do
  let d ← Reg.ofCode (field w 10 2) (field w 4 4)
  let r ← Reg.ofCode (field w 8 2) (field w 0 4)
  some (.regReg d r)

/-- The mode control statement of seven fields: the clause's constructor where it has one clause
(log 9). -/
def ModeOps.instr (o : ModeOps) : Instr :=
  match o with
  | ⟨.ena, .keep, .keep, .keep, .keep, .keep, .keep⟩ => .enaTimer
  | ⟨.dis, .keep, .keep, .keep, .keep, .keep, .keep⟩ => .disTimer
  | ⟨.keep, .ena, .keep, .keep, .keep, .keep, .keep⟩ => .enaMMode
  | ⟨.keep, .dis, .keep, .keep, .keep, .keep, .keep⟩ => .disMMode
  | ⟨.keep, .keep, .ena, .keep, .keep, .keep, .keep⟩ => .enaArSat
  | ⟨.keep, .keep, .dis, .keep, .keep, .keep, .keep⟩ => .disArSat
  | ⟨.keep, .keep, .keep, .ena, .keep, .keep, .keep⟩ => .enaAvLatch
  | ⟨.keep, .keep, .keep, .dis, .keep, .keep, .keep⟩ => .disAvLatch
  | ⟨.keep, .keep, .keep, .keep, .ena, .keep, .keep⟩ => .enaBitRev
  | ⟨.keep, .keep, .keep, .keep, .dis, .keep, .keep⟩ => .disBitRev
  | ⟨.keep, .keep, .keep, .keep, .keep, .ena, .keep⟩ => .enaSecReg
  | ⟨.keep, .keep, .keep, .keep, .keep, .dis, .keep⟩ => .disSecReg
  | ⟨.keep, .keep, .keep, .keep, .keep, .keep, .ena⟩ => .enaGMode
  | ⟨.keep, .keep, .keep, .keep, .keep, .keep, .dis⟩ => .disGMode
  | o => .modeControl o

/-- Type 18: `00001100`, seven mode fields from TIMER to G_MODE, `00`. -/
def type18 (w : Nat) : Option Instr :=
  if field w 0 2 = 0 then
    some (ModeOps.instr
      { timer := Switch.ofCode (field w 14 2), mMode := Switch.ofCode (field w 12 2),
        arSat := Switch.ofCode (field w 10 2), avLatch := Switch.ofCode (field w 8 2),
        bitRev := Switch.ofCode (field w 6 2), secReg := Switch.ofCode (field w 4 2),
        gMode := Switch.ofCode (field w 2 2) })
  else none

/-- Type 19: `0000101100000000` I `0` S COND. -/
def type19 (w : Nat) : Option Instr := do
  let c ← Cond.ofCode (field w 0 4)
  let i : DagIdx := Fin.ofNat 4 (field w 6 2)
  if field w 5 1 = 0 then
    if field w 4 1 = 0 then some (.jumpInd i c) else some (.callInd i c)
  else none

/-- Type 20: `0000101000000000000` T COND. -/
def type20 (w : Nat) : Option Instr := do
  let c ← Cond.ofCode (field w 0 4)
  if field w 4 1 = 0 then some (.rts c) else some (.rti c)

/-- Type 21: `0000100100000000000` G I M. -/
def type21 (w : Nat) : Option Instr :=
  some (.modify (pairOf (field w 4 1) (field w 2 2) (field w 0 2)))

/-- Type 23: `0000011100010` XOP `00000000`. -/
def type23 (w : Nat) : Option Instr := do
  let x ← XAlu.ofCode (field w 8 3)
  if field w 0 8 = 0 then some (.divq x) else none

/-- Type 24: `00000110000` YOP XOP `00000000`, the `yop` AY1 or AF (R115). -/
def type24 (w : Nat) : Option Instr := do
  let y ← YAlu.ofCode (field w 11 2)
  let x ← XAlu.ofCode (field w 8 3)
  if field w 0 8 = 0 ∧ y.divisible = true then some (.divs y x) else none

/-- The stack control statement of its clauses: the clause's constructor where it has one clause
(log 9); a statement has at least one (R341). -/
def StackOps.instr (o : StackOps) : Option Instr :=
  match o with
  | ⟨false, false, false, none⟩ => none
  | ⟨true, false, false, none⟩ => some .popPc
  | ⟨false, true, false, none⟩ => some .popLoop
  | ⟨false, false, true, none⟩ => some .popCntr
  | ⟨false, false, false, some .push⟩ => some .pushSts
  | ⟨false, false, false, some .pop⟩ => some .popSts
  | o => some (.stackControl o)

/-- Type 26: `0000010000000000000` PP LP CP SPP. -/
def type26 (w : Nat) : Option Instr :=
  StackOps.instr
    { pc := bitOf (field w 4 1), loop := bitOf (field w 3 1), cntr := bitOf (field w 2 1),
      sts := stsOf (field w 0 2) }

/-- Type 27: `00000011` ADDR[11:0] ADDR[13:12] FIC S. -/
def type27 (w : Nat) : Option Instr :=
  let a := BitVec.ofNat Config.AW (field w 2 2 * 4096 + field w 4 12)
  let n := !bitOf (field w 1 1)
  if field w 0 1 = 0 then some (.jumpFlag n a) else some (.callFlag n a)

/-- Type 28: `000000100000` FL2 FL1 FL0 FO COND. -/
def type28 (w : Nat) : Option Instr := do
  let c ← Cond.ofCode (field w 0 4)
  let fl2 ← FlagOp.ofCode (field w 10 2)
  let fl1 ← FlagOp.ofCode (field w 8 2)
  let fl0 ← FlagOp.ofCode (field w 6 2)
  let fo ← FlagOp.ofCode (field w 4 2)
  some (.flagOut { fl2 := fl2, fl1 := fl1, fl0 := fl0, fo := fo } c)

/-- Type 31: `00000010100000000000` DV. -/
def type31 (w : Nat) : Option Instr :=
  if field w 0 4 = 0 then some .idle else (IdleDiv.ofCode (field w 0 4)).map .idleN

/-- An instruction of the format Type `n`, or the rejection that names the format. -/
def orReserved (n : Nat) : Option Instr → Except Reject Instr
  | some i => .ok i
  | none => .error (.reservedField n)

/-- The instruction a 24-bit word is, or why it is none (R127, R129). -/
def decodeNat (w : Nat) : Except Reject Instr :=
  if w / 2 ^ 22 = 0b11 then orReserved 1 (type1 w)
  else if w / 2 ^ 21 = 0b101 then orReserved 2 (type2 w)
  else if w / 2 ^ 21 = 0b100 then orReserved 3 (type3 w)
  else if w / 2 ^ 21 = 0b011 then orReserved 4 (type4 w)
  else if w / 2 ^ 20 = 0b0101 then orReserved 5 (type5 w)
  else if w / 2 ^ 20 = 0b0100 then orReserved 6 (type6 w)
  else if w / 2 ^ 20 = 0b0011 then orReserved 7 (type7 w)
  else if w / 2 ^ 19 = 0b00101 then orReserved 8 (type8 w)
  else if w / 2 ^ 19 = 0b00100 then orReserved 9 (type9 w)
  else if w / 2 ^ 19 = 0b00011 then orReserved 10 (type10 w)
  else if w / 2 ^ 18 = 0b000101 then orReserved 11 (type11 w)
  else if w / 2 ^ 17 = 0b0001001 then orReserved 12 (type12 w)
  else if w / 2 ^ 16 = 0b00010001 then orReserved 13 (type13 w)
  else if w / 2 ^ 15 = 0b000100000 then orReserved 14 (type14 w)
  else if w / 2 ^ 15 = 0b000011110 then orReserved 15 (type15 w)
  else if w / 2 ^ 15 = 0b000011100 then orReserved 16 (type16 w)
  else if w / 2 ^ 12 = 0b000011010000 then orReserved 17 (type17 w)
  else if w / 2 ^ 16 = 0b00001100 then orReserved 18 (type18 w)
  else if w / 2 ^ 8 = 0b0000101100000000 then orReserved 19 (type19 w)
  else if w / 2 ^ 5 = 0b0000101000000000000 then orReserved 20 (type20 w)
  else if w / 2 ^ 5 = 0b0000100100000000000 then orReserved 21 (type21 w)
  else if w / 2 ^ 11 = 0b0000011100010 then orReserved 23 (type23 w)
  else if w / 2 ^ 13 = 0b00000110000 then orReserved 24 (type24 w)
  else if w = 0b000001010000000000000000 then .ok .satMr
  else if w / 2 ^ 5 = 0b0000010000000000000 then orReserved 26 (type26 w)
  else if w / 2 ^ 16 = 0b00000011 then orReserved 27 (type27 w)
  else if w / 2 ^ 12 = 0b000000100000 then orReserved 28 (type28 w)
  else if w = 0 then .ok .nop
  else if w / 2 ^ 4 = 0b00000010100000000000 then orReserved 31 (type31 w)
  else .error .noFormat

/-- The instruction a PM word is, or why it is none. -/
def decode (w : PmBits) : Except Reject Instr := decodeNat w.toNat

/-- The instruction of a table word (bit 0 the least significant, the bits above `nbits` zero);
every instruction is one 24-bit word (R110). -/
def decodeTableWord (nbits w : Nat) : Option Instr :=
  if w % 2 ^ nbits < 2 ^ 24 then (decodeNat (w % 2 ^ nbits)).toOption else none

/-! ### The encoder -/

/-- A word of Type 9 with `low` its bits 7..4. -/
def word9 (z amf y x low c : Nat) : Nat :=
  0b00100 * 2 ^ 19 + z * 2 ^ 18 + amf * 2 ^ 13 + y * 2 ^ 11 + x * 2 ^ 8 + low * 2 ^ 4 + c

/-- The word of a conditional ALU expression. -/
def AluFn.word (z : AluDest) (c : Cond) (f : AluFn) : Nat :=
  word9 z.code f.code.1 f.code.2.1 f.code.2.2 0 c.code

/-- The word of a conditional MAC expression, if the annex has one. -/
def MacFn.word (z : MacDest) (c : Cond) (f : MacFn) : Option Nat :=
  f.code.map (fun q => word9 z.code q.1 q.2.1 q.2.2 0 c.code)

/-- The word of a constant form of Type 9, `bo` its BO field. -/
def constWord (amf bo : Nat) (z : AluDest) (x : Nat) (k : Bit) (c : Cond) : Nat :=
  word9 z.code amf (k.val / 4) x (k.val % 4 * 4 + bo) c.code

/-- The word of a constant form of Type 9 with BO = 01: for a constant 2^k only (log 10). -/
def powWord (amf : Nat) (z : AluDest) (x : Nat) (k : Constant) (c : Cond) : Option Nat :=
  match k with
  | .pow k => some (constWord amf 1 z x k c)
  | .other _ => none

/-- The word of a conditional Shifter computation. -/
def ShiftFn.word (c : Cond) (f : ShiftFn) : Nat :=
  0b000011100 * 2 ^ 15 + f.code.1 * 2 ^ 11 + f.code.2 * 2 ^ 8 + c.code

/-- The bits Z, AMF, YOP, XOP of a computation clause, in place. -/
def Comp.bits (o : Comp) : Option Nat :=
  o.code.map (fun q => q.1 * 2 ^ 18 + q.2.1 * 2 ^ 13 + q.2.2.1 * 2 ^ 11 + q.2.2.2 * 2 ^ 8)

/-- The bits SF, XOP of a Shifter clause, in place. -/
def ShiftFn.bits (f : ShiftFn) : Nat := f.code.1 * 2 ^ 11 + f.code.2 * 2 ^ 8

/-- The low byte of a memory clause: DREG I M. -/
def lowByte (d : DReg) (p : Pair) : Nat := d.code * 2 ^ 4 + p.low

/-- A Type 4 word without its computation bits. -/
def word4 (p : Pair) (d : Nat) (r : DReg) : Nat :=
  0b011 * 2 ^ 21 + p.g * 2 ^ 20 + d * 2 ^ 19 + lowByte r p

/-- A Type 5 word without its computation bits. -/
def word5 (p : Pair) (d : Nat) (r : DReg) : Nat := 0b0101 * 2 ^ 20 + d * 2 ^ 19 + lowByte r p

/-- A Type 12 word. -/
def word12 (p : Pair) (d : Nat) (r : DReg) (f : ShiftFn) : Nat :=
  0b0001001 * 2 ^ 17 + p.g * 2 ^ 16 + d * 2 ^ 15 + f.bits + lowByte r p

/-- A Type 13 word. -/
def word13 (p : Pair) (d : Nat) (r : DReg) (f : ShiftFn) : Nat :=
  0b00010001 * 2 ^ 16 + d * 2 ^ 15 + f.bits + lowByte r p

/-- A Type 1 word without its computation bits. -/
def word1 (d : XDual) (p : Pair) (e : YDual) (q : Pair) : Nat :=
  0b11 * 2 ^ 22 + e.code * 2 ^ 20 + d.code * 2 ^ 18 + q.low * 2 ^ 4 + p.low

/-- A Type 15 word. -/
def word15 (n : ShiftKind) (o : Bool) (x : XShift) (e : Exp8) (h : Half) : Nat :=
  0b000011110 * 2 ^ 15 + (n.code + 2 * h.code + bitCode o) * 2 ^ 11 + x.code * 2 ^ 8 + e.toNat

/-- A Type 18 word. -/
def word18 (o : ModeOps) : Nat :=
  0b00001100 * 2 ^ 16 + o.timer.code * 2 ^ 14 + o.mMode.code * 2 ^ 12 + o.arSat.code * 2 ^ 10 +
    o.avLatch.code * 2 ^ 8 + o.bitRev.code * 2 ^ 6 + o.secReg.code * 2 ^ 4 + o.gMode.code * 2 ^ 2

/-- A Type 26 word. -/
def word26 (o : StackOps) : Nat :=
  0b0000010000000000000 * 2 ^ 5 + bitCode o.pc * 2 ^ 4 + bitCode o.loop * 2 ^ 3 +
    bitCode o.cntr * 2 ^ 2 + stsCode o.sts

/-- A Type 27 word. -/
def word27 (n : Bool) (a : Addr) (call : Nat) : Nat :=
  0b00000011 * 2 ^ 16 + a.toNat % 4096 * 2 ^ 4 + a.toNat / 4096 * 2 ^ 2 + bitCode (!n) * 2 + call

/-- No clause. -/
def ModeOps.none : ModeOps := ⟨.keep, .keep, .keep, .keep, .keep, .keep, .keep⟩

/-- The word of an instruction; none where the annex has none (R129: NONE =, the squaring forms,
ENA INTS, DIS INTS). Free fields of the annex are written 0. -/
def encodeNat : Instr → Option Nat
  | .addXY z x y c => some (AluFn.word z c (.xPlusY x y))
  | .addXC z x c => some (AluFn.word z c (.xPlusC x))
  | .addXYC z x y c => some (AluFn.word z c (.xPlusYC x y))
  | .addXK z x k c => powWord 19 z x.code k c
  | .addXKC z x k c => powWord 18 z x.code k c
  | .addXNK z x k c => some (constWord 19 3 z x.code k c)
  | .addXNKC z x k c => some (constWord 18 3 z x.code k c)
  | .subXY z x y c => some (AluFn.word z c (.xMinusY x y))
  | .subXYC z x y c => some (AluFn.word z c (.xMinusYB x y))
  | .subXC z x c => some (AluFn.word z c (.xB x))
  | .subXK z x k c => powWord 23 z x.code k c
  | .subXKC z x k c => powWord 22 z x.code k c
  | .subXNK z x k c => some (constWord 23 3 z x.code k c)
  | .subXNKC z x k c => some (constWord 22 3 z x.code k c)
  | .subYX z x y c => some (AluFn.word z c (.yMinusX x y))
  | .subYXC z x y c => some (AluFn.word z c (.yMinusXB x y))
  | .negXC z x c => some (AluFn.word z c (.negXB x))
  | .subKX z x k c => powWord 25 z x.code k c
  | .subKXC z x k c => powWord 26 z x.code k c
  | .subNKX z x k c => some (constWord 25 3 z x.code k c)
  | .subNKXC z x k c => some (constWord 26 3 z x.code k c)
  | .andXY z x y c => some (AluFn.word z c (.land x y))
  | .andXK z x k c => powWord 28 z x.code k c
  | .andXNK z x k c => some (constWord 28 3 z x.code k c)
  | .orXY z x y c => some (AluFn.word z c (.lor x y))
  | .orXK z x k c => powWord 29 z x.code k c
  | .orXNK z x k c => some (constWord 29 3 z x.code k c)
  | .xorXY z x y c => some (AluFn.word z c (.lxor x y))
  | .xorXK z x k c => powWord 30 z x.code k c
  | .xorXNK z x k c => some (constWord 30 3 z x.code k c)
  | .tstbit z x k c => some (constWord 28 1 z x.code k c)
  | .setbit z x k c => some (constWord 29 1 z x.code k c)
  | .clrbit z x k c => some (constWord 28 3 z x.code k c)
  | .tglbit z x k c => some (constWord 30 1 z x.code k c)
  | .passX z x c => some (AluFn.word z c (.passX x))
  | .passY z y c => some (AluFn.word z c (.passY y))
  | .pass0 z c => some (word9 z.code 16 3 0 0 c.code)
  | .pass1 z c => some (word9 z.code 17 3 0 0 c.code)
  | .passM1 z c => some (word9 z.code 24 3 0 0 c.code)
  | .passK z k c => powWord 16 z 0 k c
  | .passNK z k c => some (constWord 16 3 z 0 k c)
  | .negX z x c => some (AluFn.word z c (.negX x))
  | .negY z y c => some (AluFn.word z c (.negY y))
  | .notX z x c => some (AluFn.word z c (.notX x))
  | .notY z y c => some (AluFn.word z c (.notY y))
  | .absX z x c => some (AluFn.word z c (.absX x))
  | .incY z y c => some (AluFn.word z c (.incY y))
  | .decY z y c => some (AluFn.word z c (.decY y))
  | .divs y x => some (0b00000110000 * 2 ^ 13 + y.code * 2 ^ 11 + x.code * 2 ^ 8)
  | .divq x => some (0b0000011100010 * 2 ^ 11 + x.code * 2 ^ 8)
  | .noneAlu _ => none
  | .mulRnd z x y c => MacFn.word z c (.prod .mul .rnd x y)
  | .mulSs z x y c => MacFn.word z c (.prod .mul .ss x y)
  | .mulSu z x y c => MacFn.word z c (.prod .mul .su x y)
  | .mulUs z x y c => MacFn.word z c (.prod .mul .us x y)
  | .mulUu z x y c => MacFn.word z c (.prod .mul .uu x y)
  | .macRnd z x y c => MacFn.word z c (.prod .mac .rnd x y)
  | .macSs z x y c => MacFn.word z c (.prod .mac .ss x y)
  | .macSu z x y c => MacFn.word z c (.prod .mac .su x y)
  | .macUs z x y c => MacFn.word z c (.prod .mac .us x y)
  | .macUu z x y c => MacFn.word z c (.prod .mac .uu x y)
  | .msubRnd z x y c => MacFn.word z c (.prod .msub .rnd x y)
  | .msubSs z x y c => MacFn.word z c (.prod .msub .ss x y)
  | .msubSu z x y c => MacFn.word z c (.prod .msub .su x y)
  | .msubUs z x y c => MacFn.word z c (.prod .msub .us x y)
  | .msubUu z x y c => MacFn.word z c (.prod .msub .uu x y)
  | .square _ _ _ _ _ => none
  | .mrZero z c => MacFn.word z c .zero
  | .mrMr z c => MacFn.word z c .mr
  | .mrMrRnd z c => MacFn.word z c .mrRnd
  | .satMr => some 0b000001010000000000000000
  | .ashift o x h c => some (ShiftFn.word c (.shift .ashift o h x))
  | .lshift o x h c => some (ShiftFn.word c (.shift .lshift o h x))
  | .norm o x h c => some (ShiftFn.word c (.shift .norm o h x))
  | .expHi x c => some (ShiftFn.word c (.exp .hi x))
  | .expHix x c => some (ShiftFn.word c (.exp .hix x))
  | .expLo x c => some (ShiftFn.word c (.exp .lo x))
  | .expadj x c => some (ShiftFn.word c (.expadj x))
  | .ashiftImm o x e h => some (word15 .ashift o x e h)
  | .lshiftImm o x e h => some (word15 .lshift o x e h)
  | .regReg d r => some (0b000011010000 * 2 ^ 12 + d.code.1 * 2 ^ 10 + r.code.1 * 2 ^ 8 + d.code.2 * 2 ^ 4 + r.code.2)
  | .regDmAddr d a => some (0b1000 * 2 ^ 20 + d.code.1 * 2 ^ 18 + a.toNat * 2 ^ 4 + d.code.2)
  | .dregDm d p => some (word4 p 0 d)
  | .dmDreg p r => some (word4 p 1 r)
  | .dmData p v => some (0b101 * 2 ^ 21 + p.g * 2 ^ 20 + v.toNat * 2 ^ 4 + p.low)
  | .dmAddrReg a r => some (0b1001 * 2 ^ 20 + r.code.1 * 2 ^ 18 + a.toNat * 2 ^ 4 + r.code.2)
  | .dregData d v => some (0b0100 * 2 ^ 20 + v.toNat * 2 ^ 4 + d.code)
  | .regData d v => some (0b0011 * 2 ^ 20 + d.code.1 * 2 ^ 18 + v.toNat * 2 ^ 4 + d.code.2)
  | .dregPm d p => some (word5 p 0 d)
  | .pmDreg p r => some (word5 p 1 r)
  | .jumpAddr a c => some (0b000110 * 2 ^ 18 + a.toNat * 2 ^ 4 + c.code)
  | .jumpInd i c => some (0b0000101100000000 * 2 ^ 8 + i.val * 2 ^ 6 + c.code)
  | .jumpFlag n a => some (word27 n a 0)
  | .callAddr a c => some (0b000111 * 2 ^ 18 + a.toNat * 2 ^ 4 + c.code)
  | .callInd i c => some (0b0000101100000000 * 2 ^ 8 + i.val * 2 ^ 6 + 2 ^ 4 + c.code)
  | .callFlag n a => some (word27 n a 1)
  | .rts c => some (0b0000101000000000000 * 2 ^ 5 + c.code)
  | .rti c => some (0b0000101000000000000 * 2 ^ 5 + 2 ^ 4 + c.code)
  | .doUntil a t => some (0b000101 * 2 ^ 18 + a.toNat * 2 ^ 4 + t.code)
  | .idle => some (0b00000010100000000000 * 2 ^ 4)
  | .idleN n => some (0b00000010100000000000 * 2 ^ 4 + n.code)
  | .nop => some 0
  | .stackControl o => some (word26 o)
  | .pushSts => some (word26 ⟨false, false, false, some .push⟩)
  | .popSts => some (word26 ⟨false, false, false, some .pop⟩)
  | .popCntr => some (word26 ⟨false, false, true, none⟩)
  | .popPc => some (word26 ⟨true, false, false, none⟩)
  | .popLoop => some (word26 ⟨false, true, false, none⟩)
  | .modeControl o => some (word18 o)
  | .enaTimer => some (word18 { ModeOps.none with timer := .ena })
  | .disTimer => some (word18 { ModeOps.none with timer := .dis })
  | .enaMMode => some (word18 { ModeOps.none with mMode := .ena })
  | .disMMode => some (word18 { ModeOps.none with mMode := .dis })
  | .enaArSat => some (word18 { ModeOps.none with arSat := .ena })
  | .disArSat => some (word18 { ModeOps.none with arSat := .dis })
  | .enaAvLatch => some (word18 { ModeOps.none with avLatch := .ena })
  | .disAvLatch => some (word18 { ModeOps.none with avLatch := .dis })
  | .enaBitRev => some (word18 { ModeOps.none with bitRev := .ena })
  | .disBitRev => some (word18 { ModeOps.none with bitRev := .dis })
  | .enaSecReg => some (word18 { ModeOps.none with secReg := .ena })
  | .disSecReg => some (word18 { ModeOps.none with secReg := .dis })
  | .enaGMode => some (word18 { ModeOps.none with gMode := .ena })
  | .disGMode => some (word18 { ModeOps.none with gMode := .dis })
  | .modify p => some (0b0000100100000000000 * 2 ^ 5 + p.g * 2 ^ 4 + p.low)
  | .flagOut o c => some (0b000000100000 * 2 ^ 12 + o.fl2.code * 2 ^ 10 + o.fl1.code * 2 ^ 8 + o.fl0.code * 2 ^ 6 + o.fo.code * 2 ^ 4 + c.code)
  | .enaInts => none
  | .disInts => none
  | .compDmPm o d p e q => o.bits.map (fun b => word1 d p e q + b)
  | .dualRead d p e q => some (word1 d p e q)
  | .compDm o d p => o.bits.map (fun b => word4 p 0 d + b)
  | .shiftDm o d p => some (word12 p 0 d o)
  | .compPm o d p => o.bits.map (fun b => word5 p 0 d + b)
  | .shiftPm o d p => some (word13 p 0 d o)
  | .dmComp p r o => o.bits.map (fun b => word4 p 1 r + b)
  | .dmShift p r o => some (word12 p 1 r o)
  | .pmComp p r o => o.bits.map (fun b => word5 p 1 r + b)
  | .pmShift p r o => some (word13 p 1 r o)
  | .compMove o d r => o.bits.map (fun b => 0b00101 * 2 ^ 19 + b + d.code * 2 ^ 4 + r.code)
  | .shiftMove o d r => some (0b000100000 * 2 ^ 15 + o.bits + d.code * 2 ^ 4 + r.code)

/-- The PM word of an instruction, where the annex has one. -/
def encode (i : Instr) : Option PmBits := (encodeNat i).map (BitVec.ofNat Config.IW)

/-- The instruction that the word of `i` decodes to: `i`, but for the bit operations, which share
their words with constant forms (spec/opcode_table.json). DESIGN CHOICE (log 9): such a word is the
constant form's, whose effect is the same where `alu_constants` has the constant. -/
def Instr.canonical : Instr → Instr
  | .addXY z x y c => .addXY z x y c
  | .addXC z x c => .addXC z x c
  | .addXYC z x y c => .addXYC z x y c
  | .addXK z x k c => .addXK z x k c
  | .addXKC z x k c => .addXKC z x k c
  | .addXNK z x k c => .addXNK z x k c
  | .addXNKC z x k c => .addXNKC z x k c
  | .subXY z x y c => .subXY z x y c
  | .subXYC z x y c => .subXYC z x y c
  | .subXC z x c => .subXC z x c
  | .subXK z x k c => .subXK z x k c
  | .subXKC z x k c => .subXKC z x k c
  | .subXNK z x k c => .subXNK z x k c
  | .subXNKC z x k c => .subXNKC z x k c
  | .subYX z x y c => .subYX z x y c
  | .subYXC z x y c => .subYXC z x y c
  | .negXC z x c => .negXC z x c
  | .subKX z x k c => .subKX z x k c
  | .subKXC z x k c => .subKXC z x k c
  | .subNKX z x k c => .subNKX z x k c
  | .subNKXC z x k c => .subNKXC z x k c
  | .andXY z x y c => .andXY z x y c
  | .andXK z x k c => .andXK z x k c
  | .andXNK z x k c => .andXNK z x k c
  | .orXY z x y c => .orXY z x y c
  | .orXK z x k c => .orXK z x k c
  | .orXNK z x k c => .orXNK z x k c
  | .xorXY z x y c => .xorXY z x y c
  | .xorXK z x k c => .xorXK z x k c
  | .xorXNK z x k c => .xorXNK z x k c
  | .tstbit z x k c => .andXK z x (.pow k) c
  | .setbit z x k c => .orXK z x (.pow k) c
  | .clrbit z x k c => .andXNK z x k c
  | .tglbit z x k c => .xorXK z x (.pow k) c
  | .passX z x c => .passX z x c
  | .passY z y c => .passY z y c
  | .pass0 z c => .pass0 z c
  | .pass1 z c => .pass1 z c
  | .passM1 z c => .passM1 z c
  | .passK z k c => .passK z k c
  | .passNK z k c => .passNK z k c
  | .negX z x c => .negX z x c
  | .negY z y c => .negY z y c
  | .notX z x c => .notX z x c
  | .notY z y c => .notY z y c
  | .absX z x c => .absX z x c
  | .incY z y c => .incY z y c
  | .decY z y c => .decY z y c
  | .divs y x => .divs y x
  | .divq x => .divq x
  | .noneAlu f => .noneAlu f
  | .mulRnd z x y c => .mulRnd z x y c
  | .mulSs z x y c => .mulSs z x y c
  | .mulSu z x y c => .mulSu z x y c
  | .mulUs z x y c => .mulUs z x y c
  | .mulUu z x y c => .mulUu z x y c
  | .macRnd z x y c => .macRnd z x y c
  | .macSs z x y c => .macSs z x y c
  | .macSu z x y c => .macSu z x y c
  | .macUs z x y c => .macUs z x y c
  | .macUu z x y c => .macUu z x y c
  | .msubRnd z x y c => .msubRnd z x y c
  | .msubSs z x y c => .msubSs z x y c
  | .msubSu z x y c => .msubSu z x y c
  | .msubUs z x y c => .msubUs z x y c
  | .msubUu z x y c => .msubUu z x y c
  | .square z n m x c => .square z n m x c
  | .mrZero z c => .mrZero z c
  | .mrMr z c => .mrMr z c
  | .mrMrRnd z c => .mrMrRnd z c
  | .satMr => .satMr
  | .ashift o x h c => .ashift o x h c
  | .lshift o x h c => .lshift o x h c
  | .norm o x h c => .norm o x h c
  | .expHi x c => .expHi x c
  | .expHix x c => .expHix x c
  | .expLo x c => .expLo x c
  | .expadj x c => .expadj x c
  | .ashiftImm o x e h => .ashiftImm o x e h
  | .lshiftImm o x e h => .lshiftImm o x e h
  | .regReg d r => .regReg d r
  | .regDmAddr d a => .regDmAddr d a
  | .dregDm d p => .dregDm d p
  | .dmDreg p r => .dmDreg p r
  | .dmData p v => .dmData p v
  | .dmAddrReg a r => .dmAddrReg a r
  | .dregData d v => .dregData d v
  | .regData d v => .regData d v
  | .dregPm d p => .dregPm d p
  | .pmDreg p r => .pmDreg p r
  | .jumpAddr a c => .jumpAddr a c
  | .jumpInd i c => .jumpInd i c
  | .jumpFlag n a => .jumpFlag n a
  | .callAddr a c => .callAddr a c
  | .callInd i c => .callInd i c
  | .callFlag n a => .callFlag n a
  | .rts c => .rts c
  | .rti c => .rti c
  | .doUntil a t => .doUntil a t
  | .idle => .idle
  | .idleN n => .idleN n
  | .nop => .nop
  | .stackControl o => .stackControl o
  | .pushSts => .pushSts
  | .popSts => .popSts
  | .popCntr => .popCntr
  | .popPc => .popPc
  | .popLoop => .popLoop
  | .modeControl o => .modeControl o
  | .enaTimer => .enaTimer
  | .disTimer => .disTimer
  | .enaMMode => .enaMMode
  | .disMMode => .disMMode
  | .enaArSat => .enaArSat
  | .disArSat => .disArSat
  | .enaAvLatch => .enaAvLatch
  | .disAvLatch => .disAvLatch
  | .enaBitRev => .enaBitRev
  | .disBitRev => .disBitRev
  | .enaSecReg => .enaSecReg
  | .disSecReg => .disSecReg
  | .enaGMode => .enaGMode
  | .disGMode => .disGMode
  | .modify p => .modify p
  | .flagOut o c => .flagOut o c
  | .enaInts => .enaInts
  | .disInts => .disInts
  | .compDmPm o d p e q => .compDmPm o d p e q
  | .dualRead d p e q => .dualRead d p e q
  | .compDm o d p => .compDm o d p
  | .shiftDm o d p => .shiftDm o d p
  | .compPm o d p => .compPm o d p
  | .shiftPm o d p => .shiftPm o d p
  | .dmComp p r o => .dmComp p r o
  | .dmShift p r o => .dmShift p r o
  | .pmComp p r o => .pmComp p r o
  | .pmShift p r o => .pmShift p r o
  | .compMove o d r => .compMove o d r
  | .shiftMove o d r => .shiftMove o d r

end Sys2Proof
end

