-- ==== Sys2Proof/Machine/State.lean ====
section
/-! DEFINITION. The state of the machine, as plain data: every piece of state spec/10_state.md gives
it, with the launch parameters (R44) and the model's own fields `env` and `draws`. The outcomes of
the model that are no next state are those of spec/60_exceptions.md R380. -/

namespace Sys2Proof.Machine

/-! ### Outcomes -/

/-- The two memory spaces (R80). -/
inductive Space | dm | pm
  deriving DecidableEq, Repr

/-- The four stacks (R37). -/
inductive StackName | pc | cntr | loop | sts
  deriving DecidableEq, Repr

/-- The model's faults (R380). Each is safe: the hardware goes on in a way the spec gives no value
for, and nothing is proved past the fault. -/
inductive Fault
  /-- Raised by a read of a memory word that holds no value (R84, R86). Safe. -/
  | unwritten (sp : Space) (a : Addr)
  /-- Raised by a read at an address the launch map does not hold (R84). Safe. -/
  | unadmittedRead (sp : Space) (a : Addr)
  /-- Raised by a write at an address the launch map does not hold (R85). Safe. -/
  | unadmittedWrite (sp : Space) (a : Addr)
  /-- Raised where `pc + 1` passes 0x3FFF (R25). Safe. -/
  | pcWrap
  /-- Raised by a push on a full stack (R37). Safe. -/
  | stackOverflow (n : StackName)
  /-- Raised by a pop of an empty stack (R37), and by a loop that goes round with an empty PC stack
  (R308; DESIGN CHOICE, log 34). Safe. -/
  | stackUnderflow (n : StackName)
  deriving DecidableEq, Repr

/-- The model's refusals (R380). Each is safe: the model declines to give the form a meaning. -/
inductive Refusal
  /-- Raised by `exec` for an instruction that has no meaning yet (no arm does so now). Safe. -/
  | notModelled (mnemonic : String)
  /-- Raised by the fetch of a word the decoder rejects (R127). Safe. -/
  | unknownWord (why : Reject)
  /-- Raised by the fetch of a launched statement outside the grammar (R127), and by a form whose
  constant is not in `alu_constants` (R121). Safe. -/
  | notAnInstruction
  /-- Raised by the fetch of a PM word the program has written (R100). Safe. -/
  | fetchOfWrittenWord (a : Addr)
  /-- Raised by a MOVE to SSTAT (R29). Safe. -/
  | writeToSstat
  /-- Raised by a MOVE from IFC (R30). Safe. -/
  | readOfIfc
  /-- Raised by a MOVE from the write-only counter load OWRCNTR (R130). Safe. -/
  | readOfOwrcntr
  /-- Raised by a data access to a memory-mapped control register (R40). Safe. -/
  | memoryMappedRegister (a : Addr)
  /-- Raised by a multifunction instruction whose two clauses write one register (R160). Safe. -/
  | twoWrites (d : DReg)
  /-- Raised by a counter test with CNTR = 0 (R311). Safe. -/
  | counterTestZero
  /-- Raised by a DO whose end address is not after it (R307). Safe. -/
  | loopEndNotAfterDo
  /-- Raised by JUMP, CALL, RTS, RTI, DO or IDLE at a loop's end address, and by a DO whose end
  address is that of a loop already on the loop stack (R308). Safe. -/
  | controlTransferAtLoopEnd
  /-- Raised by a form the member does not have (93_implementation_defined.md U13). Safe. -/
  | formAbsent
  deriving DecidableEq, Repr

/-- Why an operation has no next state. -/
inductive Stop
  /-- Raised where the model faults. Safe. -/
  | fault (r : Fault)
  /-- Raised where the model refuses. Safe. -/
  | refused (r : Refusal)
  deriving DecidableEq, Repr

/-- What an operation answers: a value, or why there is none. -/
abbrev Eff (α : Type) := Except Stop α

/-! ### The parts of the state -/

/-- One copy of the registers of the computation units, those of the secondary register set (R39). -/
structure Bank where
  ax0 : Word
  ax1 : Word
  ay0 : Word
  ay1 : Word
  ar : Word
  af : Word
  mx0 : Word
  mx1 : Word
  my0 : Word
  my1 : Word
  mr0 : Word
  mr1 : Word
  mr2 : BitVec Config.MR2W
  mf : Word
  si : Word
  se : BitVec Config.SEW
  sb : BitVec Config.SBW
  sr0 : Word
  sr1 : Word
  deriving DecidableEq, Repr

/-- CNTR, and whether an assignment or a pop has given it its value (R31, R311; log 11). -/
structure Counter where
  value : Addr
  loaded : Bool
  deriving DecidableEq, Repr

/-- The serial ports' data registers (R36). -/
structure Serial where
  tx0 : Word
  tx1 : Word
  rx0 : Word
  rx1 : Word
  deriving DecidableEq, Repr

/-- An entry of the loop stack: the address of a loop's last instruction, and its termination (R37). -/
structure LoopEntry where
  last : Addr
  term : Term
  deriving DecidableEq, Repr

/-- An entry of the status stack (R37, R342). -/
structure StsEntry where
  astat : BitVec 8
  mstat : BitVec 7
  imask : Word
  deriving DecidableEq, Repr

/-- The four stacks, the top of each first (R37). -/
structure Stacks where
  pc : List Addr
  cntr : List Addr
  loop : List LoopEntry
  sts : List StsEntry
  deriving DecidableEq, Repr

/-- The flag output pins (R38). -/
structure Pins where
  fo : Bool
  fl0 : Bool
  fl1 : Bool
  fl2 : Bool
  deriving DecidableEq, Repr

/-- What a program memory address holds: a word of 24 bits with its mark "written by the program"
(R81, R85), or a statement the launch image placed there (D2, log 7). -/
inductive PmCell
  | word (w : PmBits) (written : Bool)
  | stmt (i : Instr)
  deriving DecidableEq, Repr

/-- A memory: pairs of an address and what it holds, the addresses strictly rising. An address
that is not listed holds no value (R86, log 3). -/
abbrev Memory (α : Type) := List (Nat × α)

/-- An output event (R36, R357). -/
inductive Output
  /-- The word `w` was written to TX0 (`port` false) or TX1. -/
  | tx (port : Bool) (w : Word)
  /-- The flag pins changed, to these values. -/
  | pins (p : Pins)
  deriving DecidableEq, Repr

/-- A move of an agent outside the core (R12, R97, R381, R395). -/
inductive EnvMove
  /-- The source with IMASK bit `b` requests its interrupt (R381, R392). -/
  | request (b : Fin 16)
  /-- The device of the level-sensitive source with IMASK bit `b` withdraws its request (R383). -/
  | withdraw (b : Fin 16)
  /-- DMA reads the word at `a` (R97). -/
  | dmaRead (sp : Space) (a : Addr)
  /-- DMA writes the DM word at `a` (R97). -/
  | dmaWriteDm (a : Addr) (w : Word)
  /-- DMA writes the PM word at `a` (R97). -/
  | dmaWritePm (a : Addr) (w : PmBits)
  /-- Another bus master writes the DM word at `a` (R396). -/
  | busWriteDm (a : Addr) (w : Word)
  /-- Another bus master writes the PM word at `a` (R396). -/
  | busWritePm (a : Addr) (w : PmBits)
  /-- Autobuffering moves a received word through RX0 (`port` false) or RX1 to DM (R97, GK3). -/
  | autoIn (port : Bool) (p : Pair) (w : Word)
  /-- Autobuffering moves a word from DM to TX0 (`port` false) or TX1 (R97, GK3). -/
  | autoOut (port : Bool) (p : Pair)
  deriving DecidableEq, Repr

/-- The state of the machine. -/
structure State where
  /-- The address of the instruction to be executed (R25). -/
  pc : Addr
  /-- The primary register set (R39). -/
  primary : Bank
  /-- The secondary register set (R39). -/
  secondary : Bank
  /-- I0-I7 (R32). -/
  idx : Vector Addr 8
  /-- M0-M7 (R32). -/
  mdf : Vector Addr 8
  /-- L0-L7 (R32). -/
  len : Vector Addr 8
  /-- PX (R35). -/
  px : BitVec Config.PXW
  /-- CNTR (R31). -/
  cntr : Counter
  /-- ASTAT: SS MV AQ AS AC AV AN AZ (R26). -/
  astat : BitVec 8
  /-- MSTAT: G_MODE TIMER M_MODE AR_SAT AV_LATCH BIT_REV SEC_REG (R28). -/
  mstat : BitVec 7
  /-- IMASK, in the low `imaskWidth` bits (R30). -/
  imask : Word
  /-- ICNTL (R30). -/
  icntl : BitVec 5
  /-- What was last written to IFC, in the low `ifcWidth` bits (R30); nothing reads it. -/
  ifc : Word
  /-- TX0, TX1, RX0, RX1 (R36). -/
  serial : Serial
  /-- The four stacks (R37). -/
  stk : Stacks
  /-- The last sample of the FI pin (R38). -/
  fiSample : Bool
  /-- FO, FL0, FL1, FL2 (R38). -/
  pins : Pins
  /-- The global interrupt enable (R41). -/
  ints : Bool
  /-- The core waits in IDLE (R42). -/
  idle : Bool
  /-- The pending requests, each at its source's IMASK bit (R381). -/
  pending : Word
  /-- Data memory (R80). -/
  dm : Memory Word
  /-- Program memory (R80). -/
  pm : Memory PmCell
  /-- The output events so far, the last first (R36, R357). -/
  outputs : List Output
  /-- MODEL: the turns still to take, in order; `none` is a turn of the core. When it is empty every
  turn is the core's (log 14). -/
  env : List (Option EnvMove)
  /-- MODEL: how many free values have been drawn (log 13). -/
  draws : Nat
  /-- The launch parameters, which no step writes (R44, log 5). -/
  params : Params
  deriving DecidableEq, Repr

/-- What a meaning answers. -/
abbrev Result := Host.Outcome State Fault Refusal

/-! ### Updates, one for each field -/

/-- `s` with `pc` replaced. -/
def State.setPc (s : State) (v : Addr) : State := { s with pc := v }

/-- `s` with `primary` replaced. -/
def State.setPrimary (s : State) (v : Bank) : State := { s with primary := v }

/-- `s` with `secondary` replaced. -/
def State.setSecondary (s : State) (v : Bank) : State := { s with secondary := v }

/-- `s` with `idx` replaced. -/
def State.setIdx (s : State) (v : Vector Addr 8) : State := { s with idx := v }

/-- `s` with `mdf` replaced. -/
def State.setMdf (s : State) (v : Vector Addr 8) : State := { s with mdf := v }

/-- `s` with `len` replaced. -/
def State.setLen (s : State) (v : Vector Addr 8) : State := { s with len := v }

/-- `s` with `px` replaced. -/
def State.setPx (s : State) (v : BitVec Config.PXW) : State := { s with px := v }

/-- `s` with `cntr` replaced. -/
def State.setCntr (s : State) (v : Counter) : State := { s with cntr := v }

/-- `s` with `astat` replaced. -/
def State.setAstat (s : State) (v : BitVec 8) : State := { s with astat := v }

/-- `s` with `mstat` replaced. -/
def State.setMstat (s : State) (v : BitVec 7) : State := { s with mstat := v }

/-- `s` with `imask` replaced. -/
def State.setImask (s : State) (v : Word) : State := { s with imask := v }

/-- `s` with `icntl` replaced. -/
def State.setIcntl (s : State) (v : BitVec 5) : State := { s with icntl := v }

/-- `s` with `ifc` replaced. -/
def State.setIfc (s : State) (v : Word) : State := { s with ifc := v }

/-- `s` with `serial` replaced. -/
def State.setSerial (s : State) (v : Serial) : State := { s with serial := v }

/-- `s` with `stk` replaced. -/
def State.setStk (s : State) (v : Stacks) : State := { s with stk := v }

/-- `s` with `fiSample` replaced. -/
def State.setFiSample (s : State) (v : Bool) : State := { s with fiSample := v }

/-- `s` with `pins` replaced. -/
def State.setPins (s : State) (v : Pins) : State := { s with pins := v }

/-- `s` with `ints` replaced. -/
def State.setInts (s : State) (v : Bool) : State := { s with ints := v }

/-- `s` with `idle` replaced. -/
def State.setIdle (s : State) (v : Bool) : State := { s with idle := v }

/-- `s` with `pending` replaced. -/
def State.setPending (s : State) (v : Word) : State := { s with pending := v }

/-- `s` with `dm` replaced. -/
def State.setDm (s : State) (v : Memory Word) : State := { s with dm := v }

/-- `s` with `pm` replaced. -/
def State.setPm (s : State) (v : Memory PmCell) : State := { s with pm := v }

/-- `s` with `outputs` replaced. -/
def State.setOutputs (s : State) (v : List Output) : State := { s with outputs := v }

/-- `s` with `env` replaced. -/
def State.setEnv (s : State) (v : List (Option EnvMove)) : State := { s with env := v }

/-- `s` with `draws` replaced. -/
def State.setDraws (s : State) (v : Nat) : State := { s with draws := v }


/-! ### Reset -/

/-- DESIGN CHOICE (log 1): the spec gives these registers no reset value (R43). -/
def Bank.reset : Bank :=
  { ax0 := 0, ax1 := 0, ay0 := 0, ay1 := 0, ar := 0, af := 0, mx0 := 0, mx1 := 0, my0 := 0,
    my1 := 0, mr0 := 0, mr1 := 0, mr2 := 0, mf := 0, si := 0, se := 0, sb := 0, sr0 := 0, sr1 := 0 }

/-- The machine right after reset (R43, R420). By R43: the modes, IMASK, the stacks, `idle`, the
pending requests. PRESUMED, the family's (GK11, log 2): `pc`, ASTAT, ICNTL, the interrupt enable,
FL0-FL2, the parameters. DESIGN CHOICE 0 (log 1): every other register. Memory lists nothing (log 3). -/
def State.reset : State where
  pc := 0
  primary := Bank.reset
  secondary := Bank.reset
  idx := Vector.replicate 8 0
  mdf := Vector.replicate 8 0
  len := Vector.replicate 8 0
  px := 0
  cntr := { value := 0, loaded := false }
  astat := 0
  mstat := 0
  imask := 0
  icntl := 0
  ifc := 0
  serial := { tx0 := 0, tx1 := 0, rx0 := 0, rx1 := 0 }
  stk := { pc := [], cntr := [], loop := [], sts := [] }
  fiSample := false
  pins := { fo := false, fl0 := true, fl1 := true, fl2 := true }
  ints := true
  idle := false
  pending := 0
  dm := []
  pm := []
  outputs := []
  env := []
  draws := 0
  params := Config.adsp2181

end Sys2Proof.Machine
end

