-- ==== Sys2Proof/Machine/Flags.lean ====
section
/-! DEFINITION. The bits of ASTAT and MSTAT, the conditions on them, and every flag computation:
spec/10_state.md R26, R28, spec/30_encoding.md R124, spec/41_alu.md R172 to R175, R189,
spec/42_mac.md R223. -/

namespace Sys2Proof.Machine

/-! ### ASTAT and MSTAT, bit by bit -/

/-- The bits of ASTAT (R26); `asg` is AS. -/
inductive Flag | az | an | av | ac | asg | aq | mv | ss
  deriving DecidableEq, Repr

/-- The place of a flag in ASTAT (R26). -/
def Flag.bit : Flag → Nat
  | .az => 0
  | .an => 1
  | .av => 2
  | .ac => 3
  | .asg => 4
  | .aq => 5
  | .mv => 6
  | .ss => 7

/-- A flag of a status word. -/
def flagOf (a : BitVec 8) (f : Flag) : Bool := a.getLsbD f.bit

/-- A status word with one flag replaced: the others keep their values (R26). -/
def withFlag (a : BitVec 8) (f : Flag) (b : Bool) : BitVec 8 :=
  if b then a ||| (1#8 <<< f.bit) else a &&& ~~~(1#8 <<< f.bit)

/-- A flag of the state. -/
def State.flag (s : State) (f : Flag) : Bool := flagOf s.astat f

/-- The place of a mode in MSTAT (R28, R348). -/
def modeBit : Mode → Nat
  | .secReg => 0
  | .bitRev => 1
  | .avLatch => 2
  | .arSat => 3
  | .mMode => 4
  | .timer => 5
  | .gMode => 6

/-- A mode of the state. -/
def State.mode (s : State) (m : Mode) : Bool := s.mstat.getLsbD (modeBit m)

/-- A mode word with one mode replaced. -/
def withMode (a : BitVec 7) (m : Mode) (b : Bool) : BitVec 7 :=
  if b then a ||| (1#7 <<< modeBit m) else a &&& ~~~(1#7 <<< modeBit m)

/-! ### Conditions (R124) -/

/-- The truth of a condition on ASTAT (R124). NOT CE is no condition on ASTAT (R311), and `always`
is no condition. -/
def condHolds (a : BitVec 8) : Cond → Bool
  | .eq => flagOf a .az
  | .ne => !flagOf a .az
  | .lt => flagOf a .an ^^ flagOf a .av
  | .ge => !(flagOf a .an ^^ flagOf a .av)
  | .le => (flagOf a .an ^^ flagOf a .av) || flagOf a .az
  | .gt => !((flagOf a .an ^^ flagOf a .av) || flagOf a .az)
  | .ac => flagOf a .ac
  | .notAc => !flagOf a .ac
  | .av => flagOf a .av
  | .notAv => !flagOf a .av
  | .mv => flagOf a .mv
  | .notMv => !flagOf a .mv
  | .neg => flagOf a .asg
  | .pos => !flagOf a .asg
  | .notCe => true
  | .always => true

/-- The IF condition of the same name as a termination (R123); CE and FOREVER have none. -/
def termCond : Term → Cond
  | .ne => .ne
  | .eq => .eq
  | .le => .le
  | .gt => .gt
  | .ge => .ge
  | .lt => .lt
  | .notAv => .notAv
  | .av => .av
  | .notAc => .notAc
  | .ac => .ac
  | .pos => .pos
  | .neg => .neg
  | .notMv => .notMv
  | .mv => .mv
  | .ce => .notCe
  | .forever => .always

/-! ### The ALU -/

/-- What an ALU operation leaves: its result, its own overflow and carry, and the new ASTAT. -/
structure AluOut where
  r : Word
  v : Bool
  c : Bool
  astat : BitVec 8
  deriving DecidableEq, Repr

/-- The sum of the adder, one bit wider than its operands (R172). -/
def aluSum (a b : Word) (cin : Bool) : BitVec (Config.W + 1) :=
  a.zeroExtend _ + b.zeroExtend _ + (BitVec.ofBool cin).zeroExtend _

/-- Signed overflow of the adder: both operands of one sign, the result of the other (R172). -/
def aluOverflow (a b r : Word) : Bool := a.msb == b.msb && r.msb != a.msb

/-- AV after an operation with overflow `v`: latched under AV_LATCH (R174). -/
def avNext (s : State) (v : Bool) : Bool := if s.mode .avLatch then s.flag .av || v else v

/-- The flag class ARITH over one use of the adder (R172). -/
def arith (s : State) (a b : Word) (cin : Bool) : AluOut :=
  let t := aluSum a b cin
  let r := t.setWidth Config.W
  let v := aluOverflow a b r
  { r := r, v := v, c := t.msb,
    astat := withFlag (withFlag (withFlag (withFlag s.astat .az (r == 0)) .an r.msb)
      .av (avNext s v)) .ac t.msb }

/-- The flag class LOGIC (R173). -/
def logic (s : State) (r : Word) : AluOut :=
  { r := r, v := false, c := false,
    astat := withFlag (withFlag (withFlag (withFlag s.astat .az (r == 0)) .an r.msb)
      .av (avNext s false)) .ac false }

/-- ABS, the one instruction that writes AS (R189). -/
def absolute (s : State) (x : Word) : AluOut :=
  let r := if x.msb then 0 - x else x
  let v := x == BitVec.intMin Config.W
  { r := r, v := v, c := false,
    astat := withFlag (withFlag (withFlag (withFlag (withFlag s.astat .az (r == 0)) .an v)
      .av (avNext s v)) .ac false) .asg x.msb }

/-- What AR takes: the result, under AR_SAT saturated on this operation's overflow to 0x8000 or 0x7FFF
(R175). -/
def arValue (s : State) (o : AluOut) : Word :=
  if s.mode .arSat && o.v then 
    (if o.c then BitVec.intMin Config.W else BitVec.intMax Config.W) else o.r

/-! ### The MAC -/

/-- MV: the nine bits MR2 and the top bit of MR1 are not all alike (R223). -/
def macOverflow (r : Acc) : Bool :=
  let top := r.extractLsb' (2 * Config.W - 1) (Config.MR2W + 1)
  !(top == 0 || top == BitVec.allOnes _)

/-- ASTAT after a MAC operation with result `r` (R223). -/
def macAstat (s : State) (r : Acc) : BitVec 8 := withFlag s.astat .mv (macOverflow r)

end Sys2Proof.Machine
end

