-- ==== Sys2Proof/Machine/Ops.lean ====
section
/-! DEFINITION. The operations every meaning is made of: memory (spec/20_memory.md), the stacks
(spec/10_state.md R37), the counter (spec/45_program_flow.md R311), conditions, the sequential pc
with the loop-end check (R300, R308), taking an interrupt and returning from one
(spec/60_exceptions.md R385, R386), and the instruction fetch. -/

namespace Sys2Proof.Machine

/-! ### Outcomes -/

/-- The outcome of an operation that gives a state. -/
def finish : Eff State → Result
  | .ok s => .next s
  | .error (.fault r) => .fault r
  | .error (.refused r) => .refused r

/-- A form that exists only where `b` (U13). -/
def needs (b : Bool) (r : Result) : Result := if b then r else .refused .formAbsent

/-! ### Memory (R84 to R86) -/

/-- What a memory holds at an address; none where it lists nothing (log 3). -/
def Memory.lookup {α : Type} : Memory α → Nat → Option α
  | [], _ => none
  | (b, x) :: m, a => if a = b then some x else Memory.lookup m a

/-- A memory with one address replaced, its addresses strictly rising as before. -/
def Memory.store {α : Type} : Memory α → Nat → α → Memory α
  | [], a, v => [(a, v)]
  | (b, x) :: m, a, v =>
    if a < b then (a, v) :: (b, x) :: m
    else if a = b then (a, v) :: m
    else (b, x) :: Memory.store m a v

/-- The canonical form: addresses strictly rising, each within the space (R81). -/
abbrev Memory.wf {α : Type} (m : Memory α) : Prop :=
  m.Pairwise (fun x y => x.1 < y.1) ∧ ∀ x ∈ m, x.1 < 2 ^ Config.AW

/-- What the launch map holds at an address (R86). -/
def regionKind : List Region → Nat → Option RegionKind
  | [], _ => none
  | r :: m, a => if r.lo ≤ a ∧ a ≤ r.hi then some r.kind else regionKind m a

/-- `MemRead(DM:a, 1)` (R84, R40). -/
def readDm (a : Addr) (s : State) : Eff Word :=
  match regionKind s.params.dmMap a.toNat with
  | none => .error (.fault (.unadmittedRead .dm a))
  | some .control => .error (.refused (.memoryMappedRegister a))
  | some .ram =>
    match s.dm.lookup a.toNat with
    | none => .error (.fault (.unwritten .dm a))
    | some v => .ok v

/-- `MemWrite(DM:a, 1, v)` (R85, R40). -/
def writeDm (a : Addr) (v : Word) (s : State) : Eff State :=
  match regionKind s.params.dmMap a.toNat with
  | none => .error (.fault (.unadmittedWrite .dm a))
  | some .control => .error (.refused (.memoryMappedRegister a))
  | some .ram => .ok (s.setDm (s.dm.store a.toNat v))

/-- What PM holds at an address (R84). -/
def readCell (a : Addr) (s : State) : Eff PmCell :=
  match regionKind s.params.pmMap a.toNat with
  | none => .error (.fault (.unadmittedRead .pm a))
  | some .control => .error (.refused (.memoryMappedRegister a))
  | some .ram =>
    match s.pm.lookup a.toNat with
    | none => .error (.fault (.unwritten .pm a))
    | some v => .ok v

/-- The 24 bits of a PM cell; those of a launched statement are a free value (log 19). -/
def cellBits : PmCell → PmBits
  | .word w _ => w
  | .stmt i => Config.stmtWord i

/-- `MemRead(PM:a, 1)` (R84). -/
def readPm (a : Addr) (s : State) : Eff PmBits := do
  let c ← readCell a s
  .ok (cellBits c)

/-- A write of a PM word with its mark (R85). -/
def writeCell (a : Addr) (w : PmBits) (written : Bool) (s : State) : Eff State :=
  match regionKind s.params.pmMap a.toNat with
  | none => .error (.fault (.unadmittedWrite .pm a))
  | some .control => .error (.refused (.memoryMappedRegister a))
  | some .ram => .ok (s.setPm (s.pm.store a.toNat (.word w written)))

/-- `MemWrite(PM:a, 1, v)`: the address becomes "written by the program" (R85). -/
def writePm (a : Addr) (w : PmBits) (s : State) : Eff State := writeCell a w true s

/-! ### The stacks (R37) -/

/-- Push on the PC stack. -/
def pushPc (a : Addr) (s : State) : Eff State :=
  if s.stk.pc.length < s.params.pcDepth then .ok (s.setStk { s.stk with pc := a :: s.stk.pc })
  else .error (.fault (.stackOverflow .pc))

/-- Push on the counter stack. -/
def pushCntr (a : Addr) (s : State) : Eff State :=
  if s.stk.cntr.length < s.params.cntrDepth then
    .ok (s.setStk { s.stk with cntr := a :: s.stk.cntr })
  else .error (.fault (.stackOverflow .cntr))

/-- Push on the loop stack. -/
def pushLoop (e : LoopEntry) (s : State) : Eff State :=
  if s.stk.loop.length < s.params.loopDepth then
    .ok (s.setStk { s.stk with loop := e :: s.stk.loop })
  else .error (.fault (.stackOverflow .loop))

/-- Push ASTAT, MSTAT and IMASK on the status stack (R342). -/
def pushSts (s : State) : Eff State :=
  if s.stk.sts.length < s.params.stsDepth then
    .ok (s.setStk { s.stk with
      sts := { astat := s.astat, mstat := s.mstat, imask := s.imask } :: s.stk.sts })
  else .error (.fault (.stackOverflow .sts))

/-- Pop the PC stack: its top, and the state without it. -/
def takePc (s : State) : Eff (Addr × State) :=
  match s.stk.pc with
  | [] => .error (.fault (.stackUnderflow .pc))
  | a :: rest => .ok (a, s.setStk { s.stk with pc := rest })

/-- `POP PC`: the value is discarded (R345). -/
def dropPc (s : State) : Eff State := do
  let (_, s) ← takePc s
  .ok s

/-- `POP LOOP`: the entry is discarded (R346). -/
def dropLoop (s : State) : Eff State :=
  match s.stk.loop with
  | [] => .error (.fault (.stackUnderflow .loop))
  | _ :: rest => .ok (s.setStk { s.stk with loop := rest })

/-- `POP CNTR`: the top of the counter stack comes back into CNTR (R344). -/
def popCntr (s : State) : Eff State :=
  match s.stk.cntr with
  | [] => .error (.fault (.stackUnderflow .cntr))
  | a :: rest =>
    .ok ((s.setStk { s.stk with cntr := rest }).setCntr { value := a, loaded := true })

/-- `POP STS`: ASTAT, MSTAT and IMASK take the saved values (R343). -/
def popSts (s : State) : Eff State :=
  match s.stk.sts with
  | [] => .error (.fault (.stackUnderflow .sts))
  | e :: rest =>
    .ok ((((s.setStk { s.stk with sts := rest }).setAstat e.astat).setMstat e.mstat).setImask
      e.imask)

/-! ### The counter and the conditions -/

/-- `not_ce()`: the test of NOT CE, true while the counter has not expired (R311). Each test
counts. Where it expires with an empty counter stack CNTR holds no value: a free one, and the next
test counts from that (log 11). -/
def counterTest (s : State) : Eff (Bool × State) :=
  if s.cntr.value = 0 then .error (.refused .counterTestZero)
  else if s.cntr.value = 1 then
    match s.stk.cntr with
    | [] =>
      .ok (false, (s.setCntr { value := Config.freeCntr s.draws, loaded := false }).setDraws
        (s.draws + 1))
    | a :: rest =>
      .ok (false, (s.setStk { s.stk with cntr := rest }).setCntr { value := a, loaded := true })
  else .ok (true, s.setCntr { s.cntr with value := s.cntr.value - 1 })

/-- `cond(c)`: the truth of an IF condition, and the state after its evaluation, which only NOT CE
changes (R124, R311). -/
def evalCond (c : Cond) (s : State) : Eff (Bool × State) :=
  if c = .notCe then counterTest s else .ok (condHolds s.astat c, s)

/-- `term(t)`: the truth of a loop termination (R123, R308). -/
def evalTerm (t : Term) (s : State) : Eff (Bool × State) :=
  match t with
  | .ce => do
    let (b, s) ← counterTest s
    .ok (!b, s)
  | .forever => .ok (false, s)
  | t => .ok (condHolds s.astat (termCond t), s)

/-- An instruction under `IF condition`: with a false condition a NOP (R125). -/
def ifThen (c : Cond) (f : State → Eff State) (s : State) : Eff State := do
  let (b, s) ← evalCond c s
  if b then f s else .ok s

/-! ### The next pc (R300, R308) -/

/-- `pc + 1`, the address of the following instruction; past the last address, 0x3FFF, the run ends
(R25). -/
def pcNext (s : State) : Eff Addr :=
  if s.pc = BitVec.allOnes Config.AW then .error (.fault .pcWrap) else .ok (s.pc + 1)

/-- The instruction is the last of the loop on top of the loop stack (R308). -/
def atLoopEnd (s : State) : Bool :=
  match s.stk.loop with
  | [] => false
  | e :: _ => e.last == s.pc

/-- The loop-end check, with `next` the sequential pc: out of the loop where its termination holds,
else back to the loop's first instruction (R308). DESIGN CHOICE (log 34): the spec gives an empty PC
stack no top, and the model faults as for a pop (R37). -/
def closeLoop (next : Addr) (t : Term) (s : State) : Eff State := do
  let (done, s) ← evalTerm t s
  if done then do
    let s ← dropLoop s
    let s ← dropPc s
    .ok (s.setPc next)
  else
    match s.stk.pc with
    | [] => .error (.fault (.stackUnderflow .pc))
    | a :: _ => .ok (s.setPc a)

/-- What follows an instruction that does not assign `pc` (R300): `pc <- pc + 1`, then R308. -/
def advance (s : State) : Eff State := do
  let next ← pcNext s
  match s.stk.loop with
  | [] => .ok (s.setPc next)
  | e :: _ => if e.last = s.pc then closeLoop next e.term s else .ok (s.setPc next)

/-- The meaning of an instruction that does not assign `pc`, from its own effect (R300). -/
def sequential (e : Eff State) : Result := finish (do advance (← e))

/-- The meaning of a JUMP, CALL, RTS, RTI, DO or IDLE, from its effect with its next pc: refused at
a loop's end (R308). -/
def transfer (e : Eff State) (s : State) : Result :=
  if atLoopEnd s then .refused .controlTransferAtLoopEnd else finish e

/-! ### Interrupts (R383 to R386) -/

/-- The source takes its requests by edge (R30, R383). -/
def isEdge (s : State) (src : IntSource) : Bool :=
  match src.sense with
  | .edge => true
  | .level => false
  | .icntl k => s.icntl.getLsbD k.val

/-- A mask with one bit replaced. -/
def withBit (m : Word) (k : Fin 16) (b : Bool) : Word :=
  if b then m ||| ((1 : Word) <<< k.val) else m &&& ~~~((1 : Word) <<< k.val)

/-- The bits of the sources cleared. -/
def clearBits : List IntSource → Word → Word
  | [], m => m
  | src :: rest, m => clearBits rest (withBit m src.bit false)

/-- The source with a given IMASK bit and every source of lower priority (R384, R385). -/
def fromSource (b : Fin 16) : List IntSource → List IntSource
  | [] => []
  | src :: rest => if src.bit = b then src :: rest else fromSource b rest

/-- IMASK after entry: all masked without nesting; with nesting (ICNTL bit 4) the source and every
lower-priority one masked (R385). -/
def nestMask (src : IntSource) (s : State) : Word :=
  if s.icntl.getLsbD 4 then clearBits (fromSource src.bit s.params.sources) s.imask else 0

/-- The source of highest priority that is pending and enabled (R383, R384). -/
def deliverable (s : State) : Option IntSource :=
  if s.ints then
    s.params.sources.find? (fun src =>
      s.pending.getLsbD src.bit.val && s.imask.getLsbD src.bit.val)
  else none

/-- Interrupt entry, `deliver(s)` (R385): the pc goes to the PC stack, ASTAT, MSTAT and IMASK to the
status stack, IMASK is masked, an edge-sensitive request is no longer pending, the core is no
longer idle, and the pc is the source's vector. -/
def takeInterrupt (src : IntSource) (s : State) : Eff State := do
  let s1 ← pushPc s.pc s
  let s2 ← pushSts s1
  .ok ((((s2.setImask (nestMask src s)).setPending
    (if isEdge s src then withBit s.pending src.bit false else s.pending)).setIdle false).setPc
      src.vector)

/-- The return from an interrupt, RTI (R386, R306): the PC stack gives the pc, the status stack
ASTAT, MSTAT and IMASK. -/
def returnFromInterrupt (s : State) : Eff State := do
  let (a, s) ← takePc s
  let s ← popSts s
  .ok (s.setPc a)

/-! ### Instruction fetch (R110, R127, R100) -/

/-- The instruction of a PM cell: a word by the decoder, unless the program wrote it (R100); a
launched statement itself, if the grammar of R113 derives it (D2, R127). -/
def cellInstr (a : Addr) : PmCell → Eff Instr
  | .word _ true => .error (.refused (.fetchOfWrittenWord a))
  | .word w false =>
    match decode w with
    | .ok i => .ok i
    | .error e => .error (.refused (.unknownWord e))
  | .stmt i => if i.inGrammar then .ok i else .error (.refused .notAnInstruction)

/-- The instruction at `pc`. -/
def fetch (s : State) : Eff Instr := do
  let c ← readCell s.pc s
  cellInstr s.pc c

end Sys2Proof.Machine
end

