-- ==== Sys2Proof/Machine/Operands.lean ====
section
/-! DEFINITION. Every operand form: the register sets (spec/10_state.md R39), the operand classes of
the computation units (spec/30_encoding.md R115), the registers on the 16-bit move path
(spec/44_move.md R281, R291), the constants (R121) and the address generators
(spec/20_memory.md R89 to R91). -/

namespace Sys2Proof.Machine

/-! ### The register sets (R39) -/

/-- The register set that SEC_REG selects (R39). -/
def State.bank (s : State) : Bank := if s.mode .secReg then s.secondary else s.primary

/-- A write of the selected register set; the other keeps its value (R39). -/
def State.setBank (s : State) (b : Bank) : State :=
  if s.mode .secReg then s.setSecondary b else s.setPrimary b

/-- `MR = MR2 :: MR1 :: MR0` (R33). -/
def Bank.mr (b : Bank) : Acc := b.mr2 ++ b.mr1 ++ b.mr0

/-- MR replaced as a whole (R33, R223). -/
def Bank.withMr (b : Bank) (r : Acc) : Bank :=
  { b with
    mr2 := r.extractLsb' (2 * Config.W) Config.MR2W, mr1 := r.extractLsb' Config.W Config.W,
    mr0 := r.extractLsb' 0 Config.W }

/-- `SR = SR1 :: SR0` (R34). -/
def Bank.sr (b : Bank) : BitVec Config.SRW := b.sr1 ++ b.sr0

/-- SR replaced as a whole (R34, R250). -/
def Bank.withSr (b : Bank) (r : BitVec Config.SRW) : Bank :=
  { b with sr1 := r.extractLsb' Config.W Config.W, sr0 := r.extractLsb' 0 Config.W }

/-! ### Data registers (R281) -/

/-- `rd16` of a data register: MR2 and SE are sign-extended (R281). -/
def Bank.read (b : Bank) : DReg → Word
  | .ax0 => b.ax0
  | .ax1 => b.ax1
  | .mx0 => b.mx0
  | .mx1 => b.mx1
  | .ay0 => b.ay0
  | .ay1 => b.ay1
  | .my0 => b.my0
  | .my1 => b.my1
  | .si => b.si
  | .se => b.se.signExtend Config.W
  | .ar => b.ar
  | .mr0 => b.mr0
  | .mr1 => b.mr1
  | .mr2 => b.mr2.signExtend Config.W
  | .sr0 => b.sr0
  | .sr1 => b.sr1

/-- `wr` of a data register: MR2 and SE take the low 8 bits (R281); a write to MR1 fills MR2 with
copies of its top bit (R291 (a)). -/
def Bank.write (b : Bank) (v : Word) : DReg → Bank
  | .ax0 => { b with ax0 := v }
  | .ax1 => { b with ax1 := v }
  | .mx0 => { b with mx0 := v }
  | .mx1 => { b with mx1 := v }
  | .ay0 => { b with ay0 := v }
  | .ay1 => { b with ay1 := v }
  | .my0 => { b with my0 := v }
  | .my1 => { b with my1 := v }
  | .si => { b with si := v }
  | .se => { b with se := v.setWidth Config.SEW }
  | .ar => { b with ar := v }
  | .mr0 => { b with mr0 := v }
  | .mr1 => { b with mr1 := v, mr2 := if v.msb then BitVec.allOnes _ else 0 }
  | .mr2 => { b with mr2 := v.setWidth Config.MR2W }
  | .sr0 => { b with sr0 := v }
  | .sr1 => { b with sr1 := v }

/-- A data register's 16 bits. -/
def rdD (r : DReg) (s : State) : Word := s.bank.read r

/-- A write of a data register. -/
def wrD (d : DReg) (v : Word) (s : State) : State := s.setBank (s.bank.write v d)

/-! ### Operands of the computation units (R115, R171, R221, R251) -/

/-- The ALU `xop`; MR2 is read sign-extended (R171). -/
def xAlu (x : XAlu) (s : State) : Word :=
  match x with
  | .ax0 => rdD .ax0 s
  | .ax1 => rdD .ax1 s
  | .ar => rdD .ar s
  | .mr0 => rdD .mr0 s
  | .mr1 => rdD .mr1 s
  | .mr2 => rdD .mr2 s
  | .sr0 => rdD .sr0 s
  | .sr1 => rdD .sr1 s

/-- The ALU `yop` (R171). -/
def yAlu (y : YAlu) (s : State) : Word :=
  match y with
  | .ay0 => rdD .ay0 s
  | .ay1 => rdD .ay1 s
  | .af => s.bank.af

/-- The MAC `xop`; MR2 is read sign-extended (R221). -/
def xMac (x : XMac) (s : State) : Word :=
  match x with
  | .mx0 => rdD .mx0 s
  | .mx1 => rdD .mx1 s
  | .ar => rdD .ar s
  | .mr0 => rdD .mr0 s
  | .mr1 => rdD .mr1 s
  | .mr2 => rdD .mr2 s
  | .sr0 => rdD .sr0 s
  | .sr1 => rdD .sr1 s

/-- The MAC `yop` (R221). -/
def yMac (y : YMac) (s : State) : Word :=
  match y with
  | .my0 => rdD .my0 s
  | .my1 => rdD .my1 s
  | .mf => s.bank.mf

/-- The Shifter `xop`; MR2 is read sign-extended (R251). -/
def xShift (x : XShift) (s : State) : Word :=
  match x with
  | .si => rdD .si s
  | .sr1 => rdD .sr1 s
  | .sr0 => rdD .sr0 s
  | .ar => rdD .ar s
  | .mr0 => rdD .mr0 s
  | .mr1 => rdD .mr1 s
  | .mr2 => rdD .mr2 s

/-- The data register of an X input name (R152). -/
def xDualReg : XDual → DReg
  | .ax0 => .ax0
  | .ax1 => .ax1
  | .mx0 => .mx0
  | .mx1 => .mx1

/-- The data register of a Y input name (R152). -/
def yDualReg : YDual → DReg
  | .ay0 => .ay0
  | .ay1 => .ay1
  | .my0 => .my0
  | .my1 => .my1

/-- The constant 2^k, and the mask of a bit number (R121, R120). -/
def bitConst (k : Bit) : Word := (1 : Word) <<< k.val

/-- The constant NOT 2^k (R121). -/
def notBitConst (k : Bit) : Word := ~~~ bitConst k

/-- The value of a `constant` operand (R121). -/
def constValue : Constant → Word
  | .pow k => bitConst k
  | .other v => v

/-! ### The other registers (R281, R291) -/

/-- SSTAT: the empty bits follow the stacks, the overflow bits are 0 (R29). -/
def sstat (s : State) : BitVec 8 :=
  (if s.stk.pc.isEmpty then 0x01#8 else 0) ||| (if s.stk.cntr.isEmpty then 0x04#8 else 0) |||
    (if s.stk.sts.isEmpty then 0x10#8 else 0) ||| (if s.stk.loop.isEmpty then 0x40#8 else 0)

/-- The low `n` bits of a value. -/
def lowBits (n : Nat) (v : Word) : Word := v &&& BitVec.ofNat Config.W (2 ^ n - 1)

/-- A read of RX0 or RX1: a free value (R36, R291 (e)). -/
def readRx (s : State) : Eff (Word × State) :=
  .ok (Config.rxSample s.draws, s.setDraws (s.draws + 1))

/-- `rd16` of a register, and the state after the read (R281). -/
def readReg (r : Reg) (s : State) : Eff (Word × State) :=
  match r with
  | .dreg d => .ok (rdD d s, s)
  | .i n => .ok ((s.idx.get n).setWidth Config.W, s)
  | .m n => .ok ((s.mdf.get n).signExtend Config.W, s)
  | .l n => .ok ((s.len.get n).setWidth Config.W, s)
  | .astat => .ok (s.astat.setWidth Config.W, s)
  | .mstat => .ok (s.mstat.setWidth Config.W, s)
  | .sstat => .ok ((sstat s).setWidth Config.W, s)
  | .imask => .ok (s.imask, s)
  | .icntl => .ok (s.icntl.setWidth Config.W, s)
  | .cntr => .ok (s.cntr.value.setWidth Config.W, s)
  | .sb => .ok (s.bank.sb.signExtend Config.W, s)
  | .px => .ok (s.px.setWidth Config.W, s)
  | .rx0 => readRx s
  | .rx1 => readRx s
  | .tx0 => .ok (s.serial.tx0, s)
  | .tx1 => .ok (s.serial.tx1, s)
  | .ifc => .error (.refused .readOfIfc)
  | .owrcntr => .error (.refused .readOfOwrcntr)

/-- An assignment to CNTR: the old count, if there is one, goes to the counter stack
(R31, R291 (b)). -/
def writeCntr (v : Addr) (s : State) : Eff State :=
  if s.cntr.loaded then do
    let s ← pushCntr s.cntr.value s
    .ok (s.setCntr { value := v, loaded := true })
  else .ok (s.setCntr { value := v, loaded := true })

/-- A bit of a value, where there is one. -/
def optBit (w : Word) : Option (Fin 16) → Bool
  | none => false
  | some b => w.getLsbD b.val

/-- The pending bits after `w` is written to IFC: a force bit sets, a clear bit clears the pending
bit of an edge-sensitive source (R383); both at once leave a free bit (log 17). -/
def ifcPending (w : Word) (s : State) : List IntSource → Word → Word
  | [], p => p
  | src :: rest, p =>
    ifcPending w s rest
      (if isEdge s src then
        match optBit w src.force, optBit w src.clear with
        | true, true => withBit p src.bit (Config.freePending (16 * s.draws + src.bit.val))
        | true, false => withBit p src.bit true
        | false, true => withBit p src.bit false
        | false, false => p
      else p)

/-- A write of IFC (R30, R383). -/
def writeIfc (v : Word) (s : State) : State :=
  let w := lowBits s.params.ifcWidth v
  ((s.setIfc w).setPending (ifcPending w s s.params.sources s.pending)).setDraws (s.draws + 1)

/-- A write of TX0 (`port` false) or TX1: stored, and an output event (R36, R291 (e)). -/
def writeTx (port : Bool) (v : Word) (s : State) : State :=
  (s.setSerial (if port then { s.serial with tx1 := v } else { s.serial with tx0 := v })).setOutputs
    (.tx port v :: s.outputs)

/-- A write of RX0 (`port` false) or RX1 (R36). -/
def writeRx (port : Bool) (v : Word) (s : State) : State :=
  s.setSerial (if port then { s.serial with rx1 := v } else { s.serial with rx0 := v })

/-- `x[d] <- v`: `wr(d, v)` with the side effects of R291 (R281). -/
def writeReg (d : Reg) (v : Word) (s : State) : Eff State :=
  match d with
  | .dreg d => .ok (wrD d v s)
  | .i n => .ok (s.setIdx (s.idx.set n (v.setWidth Config.AW)))
  | .m n => .ok (s.setMdf (s.mdf.set n (v.setWidth Config.AW)))
  | .l n => .ok (s.setLen (s.len.set n (v.setWidth Config.AW)))
  | .astat => .ok (s.setAstat (v.setWidth 8))
  | .mstat => .ok (s.setMstat (v.setWidth 7))
  | .sstat => .error (.refused .writeToSstat)
  | .imask => .ok (s.setImask (lowBits s.params.imaskWidth v))
  | .icntl => .ok (s.setIcntl (v.setWidth 5))
  | .cntr => writeCntr (v.setWidth Config.AW) s
  | .sb => .ok (s.setBank { s.bank with sb := v.setWidth Config.SBW })
  | .px => .ok (s.setPx (v.setWidth Config.PXW))
  | .rx0 => .ok (writeRx false v s)
  | .rx1 => .ok (writeRx true v s)
  | .tx0 => .ok (writeTx false v s)
  | .tx1 => .ok (writeTx true v s)
  | .ifc => .ok (writeIfc v s)
  | .owrcntr => .ok (s.setCntr { value := v.setWidth Config.AW, loaded := true })

/-! ### The address generators (R89 to R91) -/

/-- `circ_fn`, open (R90; log 12). -/
def circFn (a m l : Addr) : Addr := Config.circFn a m l

/-- `bitrev_fn`, open (R91; log 12). -/
def bitrevFn (a : Addr) : Addr := Config.bitrevFn a

/-- The index after the post-modification of `ea`: linear where L is 0, else `circ_fn` (R89). -/
def nextIndex (p : Pair) (s : State) : Addr :=
  if s.len.get p.i = 0 then s.idx.get p.i + s.mdf.get p.m
  else circFn (s.idx.get p.i) (s.mdf.get p.m) (s.len.get p.i)

/-- The post-modification of `ea` (R89). -/
def postModify (p : Pair) (s : State) : State := s.setIdx (s.idx.set p.i (nextIndex p s))

/-- The DM address of an `(Ii, Mj)` operand: the index before its modification, bit-reversed for
DAG1 under BIT_REV (R89, R91). -/
def dmEa (p : Pair) (s : State) : Addr :=
  if p.i.val < 4 && s.mode .bitRev then bitrevFn (s.idx.get p.i) else s.idx.get p.i

/-- The PM address of an `(Ii, Mj)` operand: the index before its modification (R89, R91). -/
def pmEa (p : Pair) (s : State) : Addr := s.idx.get p.i

/-- The target of an indirect JUMP or CALL: I4-I7, not modified (R301). -/
def indirectTarget (i : DagIdx) (s : State) : Addr :=
  s.idx.get ⟨4 + i.val, Nat.add_lt_add_left i.isLt 4⟩

end Sys2Proof.Machine
end

