-- ==== Sys2Proof/Machine/Alu.lean ====
section
/-! DEFINITION. The ALU instructions: spec/41_alu.md, in the order of Table 15.3. -/

namespace Sys2Proof.Machine

/-- `alu_write` with the flags of the operation (R175): AR under AR_SAT, or AF, which never
saturates. -/
def writeAlu (z : AluDest) (o : AluOut) (s : State) : State :=
  match z with
  | .ar => (s.setBank { s.bank with ar := arValue s o }).setAstat o.astat
  | .af => (s.setBank { s.bank with af := o.r }).setAstat o.astat

/-- The expressions with register operands (R176 to R191): `p - q` is `p + ~q + 1`, `p - q + C - 1`
is `p + ~q + AC` (R172). -/
def evalAlu (f : AluFn) (s : State) : AluOut :=
  match f with
  | .xPlusY x y => arith s (xAlu x s) (yAlu y s) false
  | .xPlusC x => arith s (xAlu x s) 0 (s.flag .ac)
  | .xPlusYC x y => arith s (xAlu x s) (yAlu y s) (s.flag .ac)
  | .xMinusY x y => arith s (xAlu x s) (~~~ yAlu y s) true
  | .xMinusYB x y => arith s (xAlu x s) (~~~ yAlu y s) (s.flag .ac)
  | .xB x => arith s (xAlu x s) (BitVec.allOnes _) (s.flag .ac)
  | .yMinusX x y => arith s (yAlu y s) (~~~ xAlu x s) true
  | .yMinusXB x y => arith s (yAlu y s) (~~~ xAlu x s) (s.flag .ac)
  | .negXB x => arith s 0 (~~~ xAlu x s) (s.flag .ac)
  | .land x y => logic s (xAlu x s &&& yAlu y s)
  | .lor x y => logic s (xAlu x s ||| yAlu y s)
  | .lxor x y => logic s (xAlu x s ^^^ yAlu y s)
  | .passX x => logic s (xAlu x s)
  | .passY y => logic s (yAlu y s)
  | .negX x => arith s 0 (~~~ xAlu x s) true
  | .negY y => arith s 0 (~~~ yAlu y s) true
  | .notX x => logic s (~~~ xAlu x s)
  | .notY y => logic s (~~~ yAlu y s)
  | .absX x => absolute s (xAlu x s)
  | .incY y => arith s (yAlu y s) 1 false
  | .decY y => arith s (yAlu y s) (BitVec.allOnes _) false

/-- `[IF cond] AR|AF = expression` (R170). -/
def aluIf (c : Cond) (z : AluDest) (f : State → AluOut) (s : State) : Result :=
  sequential (ifThen c (fun s => .ok (writeAlu z (f s) s)) s)

/-- A form that exists only where `has_alu_constants`: the bit operations (R182) and PASS 0, which
R186 admits beside the constants of `alu_constants`. -/
def aluOptionIf (c : Cond) (z : AluDest) (f : State → AluOut) (s : State) : Result :=
  needs s.params.hasAluConstants (aluIf c z f s)

/-- A form with the constant `k`: where `has_alu_constants`, and only a constant of `alu_constants`
(R121). -/
def aluConstIf (k : Word) (c : Cond) (z : AluDest) (f : State → AluOut) (s : State) : Result :=
  needs s.params.hasAluConstants
    (if k ∈ s.params.aluConstants then aluIf c z f s else .refused .notAnInstruction)

/-- `div_s`, open (R192; log 12). -/
def divS (x y ay0 : Word) : Bool × Word × Word := Config.divS x y ay0

/-- `div_q`, open (R193; log 12). -/
def divQ (x af ay0 : Word) (aq : Bool) : Bool × Word × Word := Config.divQ x af ay0 aq

/-- What a division step writes: AQ, AF, AY0 (R192, R193). -/
def divideWrite (r : Bool × Word × Word) (s : State) : State :=
  (s.setBank { s.bank with af := r.2.1, ay0 := r.2.2 }).setAstat (withFlag s.astat .aq r.1)

/-! ### The instructions -/

/-- R176 `[IF cond] AR|AF = xop + yop`. -/
def execAddXY (z : AluDest) (x : XAlu) (y : YAlu) (c : Cond) (s : State) : Result :=
  aluIf c z (evalAlu (.xPlusY x y)) s

/-- R176 `[IF cond] AR|AF = xop + C`. -/
def execAddXC (z : AluDest) (x : XAlu) (c : Cond) (s : State) : Result :=
  aluIf c z (evalAlu (.xPlusC x)) s

/-- R176 `[IF cond] AR|AF = xop + yop + C`. -/
def execAddXYC (z : AluDest) (x : XAlu) (y : YAlu) (c : Cond) (s : State) : Result :=
  aluIf c z (evalAlu (.xPlusYC x y)) s

/-- R176 `[IF cond] AR|AF = xop + constant`. -/
def execAddXK (z : AluDest) (x : XAlu) (k : Constant) (c : Cond) (s : State) : Result :=
  aluConstIf (constValue k) c z (fun s => arith s (xAlu x s) (constValue k) false) s

/-- R176 `[IF cond] AR|AF = xop + constant + C`. -/
def execAddXKC (z : AluDest) (x : XAlu) (k : Constant) (c : Cond) (s : State) : Result :=
  aluConstIf (constValue k) c z (fun s => arith s (xAlu x s) (constValue k) (s.flag .ac)) s

/-- R176 `[IF cond] AR|AF = xop + constant`, the constant NOT 2^k. -/
def execAddXNK (z : AluDest) (x : XAlu) (k : Bit) (c : Cond) (s : State) : Result :=
  aluConstIf (notBitConst k) c z (fun s => arith s (xAlu x s) (notBitConst k) false) s

/-- R176 `[IF cond] AR|AF = xop + constant + C`, the constant NOT 2^k. -/
def execAddXNKC (z : AluDest) (x : XAlu) (k : Bit) (c : Cond) (s : State) : Result :=
  aluConstIf (notBitConst k) c z (fun s => arith s (xAlu x s) (notBitConst k) (s.flag .ac)) s

/-- R177 `[IF cond] AR|AF = xop - yop`. -/
def execSubXY (z : AluDest) (x : XAlu) (y : YAlu) (c : Cond) (s : State) : Result :=
  aluIf c z (evalAlu (.xMinusY x y)) s

/-- R177 `[IF cond] AR|AF = xop - yop + C - 1`. -/
def execSubXYC (z : AluDest) (x : XAlu) (y : YAlu) (c : Cond) (s : State) : Result :=
  aluIf c z (evalAlu (.xMinusYB x y)) s

/-- R177 `[IF cond] AR|AF = xop + C - 1`. -/
def execSubXC (z : AluDest) (x : XAlu) (c : Cond) (s : State) : Result :=
  aluIf c z (evalAlu (.xB x)) s

/-- R177 `[IF cond] AR|AF = xop - constant`. -/
def execSubXK (z : AluDest) (x : XAlu) (k : Constant) (c : Cond) (s : State) : Result :=
  aluConstIf (constValue k) c z (fun s => arith s (xAlu x s) (~~~ constValue k) true) s

/-- R177 `[IF cond] AR|AF = xop - constant + C - 1`. -/
def execSubXKC (z : AluDest) (x : XAlu) (k : Constant) (c : Cond) (s : State) : Result :=
  aluConstIf (constValue k) c z (fun s => arith s (xAlu x s) (~~~ constValue k) (s.flag .ac)) s

/-- R177 `[IF cond] AR|AF = xop - constant`, the constant NOT 2^k. -/
def execSubXNK (z : AluDest) (x : XAlu) (k : Bit) (c : Cond) (s : State) : Result :=
  aluConstIf (notBitConst k) c z (fun s => arith s (xAlu x s) (~~~ notBitConst k) true) s

/-- R177 `[IF cond] AR|AF = xop - constant + C - 1`, the constant NOT 2^k. -/
def execSubXNKC (z : AluDest) (x : XAlu) (k : Bit) (c : Cond) (s : State) : Result :=
  aluConstIf (notBitConst k) c z (fun s => arith s (xAlu x s) (~~~ notBitConst k) (s.flag .ac)) s

/-- R178 `[IF cond] AR|AF = yop - xop`. -/
def execSubYX (z : AluDest) (x : XAlu) (y : YAlu) (c : Cond) (s : State) : Result :=
  aluIf c z (evalAlu (.yMinusX x y)) s

/-- R178 `[IF cond] AR|AF = yop - xop + C - 1`. -/
def execSubYXC (z : AluDest) (x : XAlu) (y : YAlu) (c : Cond) (s : State) : Result :=
  aluIf c z (evalAlu (.yMinusXB x y)) s

/-- R178 `[IF cond] AR|AF = - xop + C - 1`. -/
def execNegXC (z : AluDest) (x : XAlu) (c : Cond) (s : State) : Result :=
  aluIf c z (evalAlu (.negXB x)) s

/-- R178 `[IF cond] AR|AF = - xop + constant`. -/
def execSubKX (z : AluDest) (x : XAlu) (k : Constant) (c : Cond) (s : State) : Result :=
  aluConstIf (constValue k) c z (fun s => arith s (constValue k) (~~~ xAlu x s) true) s

/-- R178 `[IF cond] AR|AF = - xop + constant + C - 1`. -/
def execSubKXC (z : AluDest) (x : XAlu) (k : Constant) (c : Cond) (s : State) : Result :=
  aluConstIf (constValue k) c z (fun s => arith s (constValue k) (~~~ xAlu x s) (s.flag .ac)) s

/-- R178 `[IF cond] AR|AF = - xop + constant`, the constant NOT 2^k. -/
def execSubNKX (z : AluDest) (x : XAlu) (k : Bit) (c : Cond) (s : State) : Result :=
  aluConstIf (notBitConst k) c z (fun s => arith s (notBitConst k) (~~~ xAlu x s) true) s

/-- R178 `[IF cond] AR|AF = - xop + constant + C - 1`, the constant NOT 2^k. -/
def execSubNKXC (z : AluDest) (x : XAlu) (k : Bit) (c : Cond) (s : State) : Result :=
  aluConstIf (notBitConst k) c z (fun s => arith s (notBitConst k) (~~~ xAlu x s) (s.flag .ac)) s

/-- R179 `[IF cond] AR|AF = xop AND yop`. -/
def execAndXY (z : AluDest) (x : XAlu) (y : YAlu) (c : Cond) (s : State) : Result :=
  aluIf c z (evalAlu (.land x y)) s

/-- R179 `[IF cond] AR|AF = xop AND constant`. -/
def execAndXK (z : AluDest) (x : XAlu) (k : Constant) (c : Cond) (s : State) : Result :=
  aluConstIf (constValue k) c z (fun s => logic s (xAlu x s &&& constValue k)) s

/-- R179 `[IF cond] AR|AF = xop AND constant`, the constant NOT 2^k. -/
def execAndXNK (z : AluDest) (x : XAlu) (k : Bit) (c : Cond) (s : State) : Result :=
  aluConstIf (notBitConst k) c z (fun s => logic s (xAlu x s &&& notBitConst k)) s

/-- R180 `[IF cond] AR|AF = xop OR yop`. -/
def execOrXY (z : AluDest) (x : XAlu) (y : YAlu) (c : Cond) (s : State) : Result :=
  aluIf c z (evalAlu (.lor x y)) s

/-- R180 `[IF cond] AR|AF = xop OR constant`. -/
def execOrXK (z : AluDest) (x : XAlu) (k : Constant) (c : Cond) (s : State) : Result :=
  aluConstIf (constValue k) c z (fun s => logic s (xAlu x s ||| constValue k)) s

/-- R180 `[IF cond] AR|AF = xop OR constant`, the constant NOT 2^k. -/
def execOrXNK (z : AluDest) (x : XAlu) (k : Bit) (c : Cond) (s : State) : Result :=
  aluConstIf (notBitConst k) c z (fun s => logic s (xAlu x s ||| notBitConst k)) s

/-- R181 `[IF cond] AR|AF = xop XOR yop`. -/
def execXorXY (z : AluDest) (x : XAlu) (y : YAlu) (c : Cond) (s : State) : Result :=
  aluIf c z (evalAlu (.lxor x y)) s

/-- R181 `[IF cond] AR|AF = xop XOR constant`. -/
def execXorXK (z : AluDest) (x : XAlu) (k : Constant) (c : Cond) (s : State) : Result :=
  aluConstIf (constValue k) c z (fun s => logic s (xAlu x s ^^^ constValue k)) s

/-- R181 `[IF cond] AR|AF = xop XOR constant`, the constant NOT 2^k. -/
def execXorXNK (z : AluDest) (x : XAlu) (k : Bit) (c : Cond) (s : State) : Result :=
  aluConstIf (notBitConst k) c z (fun s => logic s (xAlu x s ^^^ notBitConst k)) s

/-- R182 `[IF cond] AR|AF = TSTBIT n OF xop`. -/
def execTstbit (z : AluDest) (x : XAlu) (k : Bit) (c : Cond) (s : State) : Result :=
  aluOptionIf c z (fun s => logic s (xAlu x s &&& bitConst k)) s

/-- R183 `[IF cond] AR|AF = SETBIT n OF xop`. -/
def execSetbit (z : AluDest) (x : XAlu) (k : Bit) (c : Cond) (s : State) : Result :=
  aluOptionIf c z (fun s => logic s (xAlu x s ||| bitConst k)) s

/-- R184 `[IF cond] AR|AF = CLRBIT n OF xop`. -/
def execClrbit (z : AluDest) (x : XAlu) (k : Bit) (c : Cond) (s : State) : Result :=
  aluOptionIf c z (fun s => logic s (xAlu x s &&& ~~~ bitConst k)) s

/-- R185 `[IF cond] AR|AF = TGLBIT n OF xop`. -/
def execTglbit (z : AluDest) (x : XAlu) (k : Bit) (c : Cond) (s : State) : Result :=
  aluOptionIf c z (fun s => logic s (xAlu x s ^^^ bitConst k)) s

/-- R186 `[IF cond] AR|AF = PASS xop`. -/
def execPassX (z : AluDest) (x : XAlu) (c : Cond) (s : State) : Result :=
  aluIf c z (evalAlu (.passX x)) s

/-- R186 `[IF cond] AR|AF = PASS yop`. -/
def execPassY (z : AluDest) (y : YAlu) (c : Cond) (s : State) : Result :=
  aluIf c z (evalAlu (.passY y)) s

/-- R186 `[IF cond] AR|AF = PASS 0`. -/
def execPass0 (z : AluDest) (c : Cond) (s : State) : Result :=
  aluOptionIf c z (fun s => logic s 0) s

/-- R186 `[IF cond] AR|AF = PASS 1`. -/
def execPass1 (z : AluDest) (c : Cond) (s : State) : Result :=
  aluConstIf 1 c z (fun s => logic s 1) s

/-- R186 `[IF cond] AR|AF = PASS -1`. -/
def execPassM1 (z : AluDest) (c : Cond) (s : State) : Result :=
  aluConstIf (BitVec.allOnes _) c z (fun s => logic s (BitVec.allOnes _)) s

/-- R186 `[IF cond] AR|AF = PASS constant`. -/
def execPassK (z : AluDest) (k : Constant) (c : Cond) (s : State) : Result :=
  aluConstIf (constValue k) c z (fun s => logic s (constValue k)) s

/-- R186 `[IF cond] AR|AF = PASS constant`, the constant NOT 2^k. -/
def execPassNK (z : AluDest) (k : Bit) (c : Cond) (s : State) : Result :=
  aluConstIf (notBitConst k) c z (fun s => logic s (notBitConst k)) s

/-- R187 `[IF cond] AR|AF = - xop`. -/
def execNegX (z : AluDest) (x : XAlu) (c : Cond) (s : State) : Result :=
  aluIf c z (evalAlu (.negX x)) s

/-- R187 `[IF cond] AR|AF = - yop`. -/
def execNegY (z : AluDest) (y : YAlu) (c : Cond) (s : State) : Result :=
  aluIf c z (evalAlu (.negY y)) s

/-- R188 `[IF cond] AR|AF = NOT xop`. -/
def execNotX (z : AluDest) (x : XAlu) (c : Cond) (s : State) : Result :=
  aluIf c z (evalAlu (.notX x)) s

/-- R188 `[IF cond] AR|AF = NOT yop`. -/
def execNotY (z : AluDest) (y : YAlu) (c : Cond) (s : State) : Result :=
  aluIf c z (evalAlu (.notY y)) s

/-- R189 `[IF cond] AR|AF = ABS xop`. -/
def execAbsX (z : AluDest) (x : XAlu) (c : Cond) (s : State) : Result :=
  aluIf c z (evalAlu (.absX x)) s

/-- R190 `[IF cond] AR|AF = yop + 1`. -/
def execIncY (z : AluDest) (y : YAlu) (c : Cond) (s : State) : Result :=
  aluIf c z (evalAlu (.incY y)) s

/-- R191 `[IF cond] AR|AF = yop - 1`. -/
def execDecY (z : AluDest) (y : YAlu) (c : Cond) (s : State) : Result :=
  aluIf c z (evalAlu (.decY y)) s

/-- R192 `DIVS yop , xop`. -/
def execDivs (y : YAlu) (x : XAlu) (s : State) : Result :=
  sequential (.ok (divideWrite (divS (xAlu x s) (yAlu y s) s.bank.ay0) s))

/-- R193 `DIVQ xop`. -/
def execDivq (x : XAlu) (s : State) : Result :=
  sequential (.ok (divideWrite (divQ (xAlu x s) s.bank.af s.bank.ay0 (s.flag .aq)) s))

/-- R194 `NONE = <ALU>`. -/
def execNoneAlu (f : AluFn) (s : State) : Result :=
  needs s.params.hasAluConstants (sequential (.ok (s.setAstat (evalAlu f s).astat)))

end Sys2Proof.Machine
end

