-- ==== Sys2Proof/Machine/Flow.lean ====
section
/-! DEFINITION. The program flow instructions: spec/45_program_flow.md, in the order of Table 15.8.
Each is refused at a loop's end (R308), by `transfer`. -/

namespace Sys2Proof.Machine

/-- The sequential pc of an instruction that is not at a loop's end (R300). -/
def fallThrough (s : State) : Eff State := do
  let n ← pcNext s
  .ok (s.setPc n)

/-- `[IF cond]` on a control transfer: with a false condition a NOP (R300). -/
def takeIf (c : Cond) (f : State → Eff State) (s : State) : Eff State := do
  let (b, s) ← evalCond c s
  if b then f s else fallThrough s

/-- The state after a test of FI: the sample drawn is the last sample (R38 (a); log 13). -/
def sampleFi (s : State) : State :=
  (s.setFiSample (Config.fiSample s.draws)).setDraws (s.draws + 1)

/-- `IF [NOT] FLAG_IN` on a control transfer (R302, R304): `n` is NOT. -/
def takeIfFlag (n : Bool) (f : State → Eff State) (s : State) : Eff State :=
  if Config.fiSample s.draws ^^ n then f (sampleFi s) else fallThrough (sampleFi s)

/-- `push(PC stack, pc + 1) ; pc <- a` (R303). -/
def callTo (a : Addr) (s : State) : Eff State := do
  let n ← pcNext s
  let s ← pushPc n s
  .ok (s.setPc a)

/-- `pc <- pop(PC stack)` (R305). -/
def returnFromCall (s : State) : Eff State := do
  let (a, s) ← takePc s
  .ok (s.setPc a)

/-- DO (R307). A DO whose end is that of a loop already on the loop stack is refused: two loops may
not end at one address (R308; log 16). -/
def startLoop (a : Addr) (t : Term) (s : State) : Eff State :=
  if a.toNat ≤ s.pc.toNat then .error (.refused .loopEndNotAfterDo)
  else if s.stk.loop.any (fun e => e.last == a) then .error (.refused .controlTransferAtLoopEnd)
  else do
    let n ← pcNext s
    let s ← pushPc n s
    let s ← pushLoop { last := a, term := t } s
    .ok (s.setPc n)

/-- `idle <- true ; pc <- pc + 1` (R309). -/
def goIdle (s : State) : Eff State := do
  let n ← pcNext s
  .ok ((s.setPc n).setIdle true)

/-! ### The instructions -/

/-- R301 `[IF cond] JUMP <address>`. -/
def execJumpAddr (a : Addr) (c : Cond) (s : State) : Result :=
  transfer (takeIf c (fun s => .ok (s.setPc a)) s) s

/-- R301 `[IF cond] JUMP (I4|I5|I6|I7)`. -/
def execJumpInd (i : DagIdx) (c : Cond) (s : State) : Result :=
  transfer (takeIf c (fun s => .ok (s.setPc (indirectTarget i s))) s) s

/-- R302 `IF [NOT] FLAG_IN JUMP <address>`; `n` is NOT. -/
def execJumpFlag (n : Bool) (a : Addr) (s : State) : Result :=
  transfer (takeIfFlag n (fun s => .ok (s.setPc a)) s) s

/-- R303 `[IF cond] CALL <address>`. -/
def execCallAddr (a : Addr) (c : Cond) (s : State) : Result :=
  transfer (takeIf c (callTo a) s) s

/-- R303 `[IF cond] CALL (I4|I5|I6|I7)`. -/
def execCallInd (i : DagIdx) (c : Cond) (s : State) : Result :=
  transfer (takeIf c (fun s => callTo (indirectTarget i s) s) s) s

/-- R304 `IF [NOT] FLAG_IN CALL <address>`; `n` is NOT. -/
def execCallFlag (n : Bool) (a : Addr) (s : State) : Result :=
  transfer (takeIfFlag n (callTo a) s) s

/-- R305 `[IF cond] RTS`. -/
def execRts (c : Cond) (s : State) : Result :=
  transfer (takeIf c returnFromCall s) s

/-- R306 `[IF cond] RTI`. -/
def execRti (c : Cond) (s : State) : Result :=
  transfer (takeIf c returnFromInterrupt s) s

/-- R307 `DO <address> [UNTIL termination]`. -/
def execDoUntil (a : Addr) (t : Term) (s : State) : Result :=
  transfer (startLoop a t s) s

/-- R309 `IDLE`. -/
def execIdle (s : State) : Result :=
  transfer (goIdle s) s

/-- R310 `IDLE (n)`; `n` has no effect on any state. -/
def execIdleN (_n : IdleDiv) (s : State) : Result :=
  needs s.params.hasIdleN (transfer (goIdle s) s)

end Sys2Proof.Machine
end

