-- ==== Sys2Proof/Machine/Mac.lean ====
section
/-! DEFINITION. The MAC instructions: spec/42_mac.md, in the order of Table 15.4. -/

namespace Sys2Proof.Machine

/-- The X operand is signed under this modifier (R222). -/
def MacMod.xSigned : MacMod → Bool
  | .rnd => true
  | .ss => true
  | .su => true
  | .us => false
  | .uu => false

/-- The Y operand is signed under this modifier (R222). -/
def MacMod.ySigned : MacMod → Bool
  | .rnd => true
  | .ss => true
  | .su => false
  | .us => true
  | .uu => false

/-- `val`: a factor as a mathematical integer (R222). -/
def factor (v : Word) (signed : Bool) : Int := if signed then v.toInt else v.toNat

/-- `mac_product`: exact, doubled in fractional mode (M_MODE 0), then 40 bits (R222). -/
def macProduct (m : MacMod) (x y : Word) (s : State) : Acc :=
  let p := factor x (MacMod.xSigned m) * factor y (MacMod.ySigned m)
  BitVec.ofInt Config.MRW (if s.mode .mMode then p else 2 * p)

/-- `mac_round`, open (R230; log 12). -/
def macRound (r : Acc) : Acc := Config.macRound r

/-- The adder's result from a product (R224 to R226). -/
def accumulate (n : MacKind) (p : Acc) (s : State) : Acc :=
  match n with
  | .mul => p
  | .mac => s.bank.mr + p
  | .msub => s.bank.mr - p

/-- Rounding where the modifier is RND (R230). -/
def roundFor (m : MacMod) (r : Acc) : Acc := if m = .rnd then macRound r else r

/-- The result of a MAC expression (R224 to R228). -/
def evalMac (f : MacFn) (s : State) : Acc :=
  match f with
  | .prod n m x y => roundFor m (accumulate n (macProduct m (xMac x s) (yMac y s) s) s)
  | .square n m x => roundFor m (accumulate n (macProduct m (xMac x s) (xMac x s) s) s)
  | .zero => 0
  | .mr => s.bank.mr
  | .mrRnd => macRound s.bank.mr

/-- `mac_write` (R223, R231): MR whole, or MF the bits 31..16; MV. -/
def writeMac (z : MacDest) (r : Acc) (s : State) : State :=
  match z with
  | .mr => (s.setBank (s.bank.withMr r)).setAstat (macAstat s r)
  | .mf => (s.setBank { s.bank with mf := r.extractLsb' Config.W Config.W }).setAstat (macAstat s r)

/-- `[IF cond] MR|MF = expression` (R220). -/
def macIf (c : Cond) (z : MacDest) (f : State → Acc) (s : State) : Result :=
  sequential (ifThen c (fun s => .ok (writeMac z (f s) s)) s)

/-- `IF MV SAT MR` (R229): by the sign in MR2's top bit MR takes 0xFF80000000 or 0x007FFFFFFF; MV keeps
its value. -/
def saturateMr (s : State) : State :=
  if s.flag .mv then
    s.setBank (s.bank.withMr (if s.bank.mr2.msb then (BitVec.intMin (2 * Config.W)).signExtend Config.MRW
      else (BitVec.intMax (2 * Config.W)).signExtend Config.MRW))
  else s

/-! ### The instructions -/

/-- R224 `[IF cond] MR|MF = xop * yop (RND)`. -/
def execMulRnd (z : MacDest) (x : XMac) (y : YMac) (c : Cond) (s : State) : Result :=
  macIf c z (evalMac (.prod .mul .rnd x y)) s

/-- R224 `[IF cond] MR|MF = xop * yop (SS)`. -/
def execMulSs (z : MacDest) (x : XMac) (y : YMac) (c : Cond) (s : State) : Result :=
  macIf c z (evalMac (.prod .mul .ss x y)) s

/-- R224 `[IF cond] MR|MF = xop * yop (SU)`. -/
def execMulSu (z : MacDest) (x : XMac) (y : YMac) (c : Cond) (s : State) : Result :=
  macIf c z (evalMac (.prod .mul .su x y)) s

/-- R224 `[IF cond] MR|MF = xop * yop (US)`. -/
def execMulUs (z : MacDest) (x : XMac) (y : YMac) (c : Cond) (s : State) : Result :=
  macIf c z (evalMac (.prod .mul .us x y)) s

/-- R224 `[IF cond] MR|MF = xop * yop (UU)`. -/
def execMulUu (z : MacDest) (x : XMac) (y : YMac) (c : Cond) (s : State) : Result :=
  macIf c z (evalMac (.prod .mul .uu x y)) s

/-- R225 `[IF cond] MR|MF = MR + xop * yop (RND)`. -/
def execMacRnd (z : MacDest) (x : XMac) (y : YMac) (c : Cond) (s : State) : Result :=
  macIf c z (evalMac (.prod .mac .rnd x y)) s

/-- R225 `[IF cond] MR|MF = MR + xop * yop (SS)`. -/
def execMacSs (z : MacDest) (x : XMac) (y : YMac) (c : Cond) (s : State) : Result :=
  macIf c z (evalMac (.prod .mac .ss x y)) s

/-- R225 `[IF cond] MR|MF = MR + xop * yop (SU)`. -/
def execMacSu (z : MacDest) (x : XMac) (y : YMac) (c : Cond) (s : State) : Result :=
  macIf c z (evalMac (.prod .mac .su x y)) s

/-- R225 `[IF cond] MR|MF = MR + xop * yop (US)`. -/
def execMacUs (z : MacDest) (x : XMac) (y : YMac) (c : Cond) (s : State) : Result :=
  macIf c z (evalMac (.prod .mac .us x y)) s

/-- R225 `[IF cond] MR|MF = MR + xop * yop (UU)`. -/
def execMacUu (z : MacDest) (x : XMac) (y : YMac) (c : Cond) (s : State) : Result :=
  macIf c z (evalMac (.prod .mac .uu x y)) s

/-- R226 `[IF cond] MR|MF = MR - xop * yop (RND)`. -/
def execMsubRnd (z : MacDest) (x : XMac) (y : YMac) (c : Cond) (s : State) : Result :=
  macIf c z (evalMac (.prod .msub .rnd x y)) s

/-- R226 `[IF cond] MR|MF = MR - xop * yop (SS)`. -/
def execMsubSs (z : MacDest) (x : XMac) (y : YMac) (c : Cond) (s : State) : Result :=
  macIf c z (evalMac (.prod .msub .ss x y)) s

/-- R226 `[IF cond] MR|MF = MR - xop * yop (SU)`. -/
def execMsubSu (z : MacDest) (x : XMac) (y : YMac) (c : Cond) (s : State) : Result :=
  macIf c z (evalMac (.prod .msub .su x y)) s

/-- R226 `[IF cond] MR|MF = MR - xop * yop (US)`. -/
def execMsubUs (z : MacDest) (x : XMac) (y : YMac) (c : Cond) (s : State) : Result :=
  macIf c z (evalMac (.prod .msub .us x y)) s

/-- R226 `[IF cond] MR|MF = MR - xop * yop (UU)`. -/
def execMsubUu (z : MacDest) (x : XMac) (y : YMac) (c : Cond) (s : State) : Result :=
  macIf c z (evalMac (.prod .msub .uu x y)) s

/-- R224, R225, R226 (R221) `[IF cond] MR|MF = [MR +|-] xop * xop (SS|UU|RND)`. -/
def execSquare (z : MacDest) (n : MacKind) (m : MacMod) (x : XMac) (c : Cond) (s : State) : Result :=
  macIf c z (evalMac (.square n m x)) s

/-- R227 `[IF cond] MR|MF = 0`. -/
def execMrZero (z : MacDest) (c : Cond) (s : State) : Result :=
  macIf c z (evalMac .zero) s

/-- R228 `[IF cond] MR|MF = MR`. -/
def execMrMr (z : MacDest) (c : Cond) (s : State) : Result :=
  macIf c z (evalMac .mr) s

/-- R228 `[IF cond] MR|MF = MR (RND)`. -/
def execMrMrRnd (z : MacDest) (c : Cond) (s : State) : Result :=
  macIf c z (evalMac .mrRnd) s

/-- R229 `IF MV SAT MR`. -/
def execSatMr (s : State) : Result :=
  sequential (.ok (saturateMr s))

end Sys2Proof.Machine
end

