-- ==== Sys2Proof/Machine/Misc.lean ====
section
/-! DEFINITION. The miscellaneous instructions: spec/46_misc.md, in the order of Table 15.10. -/

namespace Sys2Proof.Machine

/-- An operation that a clause asks for, or none. -/
def optionally (b : Bool) (f : State → Eff State) (s : State) : Eff State := if b then f s else .ok s

/-- The STS clause (R342, R343). -/
def stsOp (o : Option StsOp) (s : State) : Eff State :=
  match o with
  | none => .ok s
  | some .push => pushSts s
  | some .pop => popSts s

/-- The clauses of a stack control statement, on four different stacks (R341). They act together;
where two of them would fault, DESIGN CHOICE (log 28): the fault reported is the first in the order STS,
CNTR, PC, LOOP. -/
def stackOps (o : StackOps) (s : State) : Eff State := do
  let s ← stsOp o.sts s
  let s ← optionally o.cntr popCntr s
  let s ← optionally o.pc dropPc s
  optionally o.loop dropLoop s

/-- `MSTAT.m <- b` (R347, R348). -/
def setMode (m : Mode) (b : Bool) (s : State) : State := s.setMstat (withMode s.mstat m b)

/-- One clause of a mode control statement, on MSTAT (R347). -/
def applySwitch (m : Mode) (w : Switch) (a : BitVec 7) : BitVec 7 :=
  match w with
  | .keep => a
  | .ena => withMode a m true
  | .dis => withMode a m false

/-- Every clause of a mode control statement (R347). -/
def modeOps (o : ModeOps) (s : State) : State :=
  s.setMstat (applySwitch .timer o.timer (applySwitch .mMode o.mMode (applySwitch .arSat o.arSat
    (applySwitch .avLatch o.avLatch (applySwitch .bitRev o.bitRev (applySwitch .secReg o.secReg
      (applySwitch .gMode o.gMode s.mstat)))))))

/-- SET, RESET or TOGGLE of one pin (R357). -/
def flagValue (o : FlagOp) (b : Bool) : Bool :=
  match o with
  | .keep => b
  | .toggle => !b
  | .reset => false
  | .set => true

/-- The pins after a flag out statement (R357). -/
def newPins (o : FlagOps) (p : Pins) : Pins :=
  { fo := flagValue o.fo p.fo, fl0 := flagValue o.fl0 p.fl0, fl1 := flagValue o.fl1 p.fl1,
    fl2 := flagValue o.fl2 p.fl2 }

/-- The flag out statement; a change of the pins is an output event (R357, R38; log 27). -/
def flagOps (o : FlagOps) (s : State) : State :=
  if newPins o s.pins = s.pins then s
  else (s.setPins (newPins o s.pins)).setOutputs (.pins (newPins o s.pins) :: s.outputs)

/-- The statement names no pin but FO, the one every member has (R357). -/
def FlagOps.onlyFo (o : FlagOps) : Bool :=
  (o.fl0 == .keep) && (o.fl1 == .keep) && (o.fl2 == .keep)

/-! ### The instructions -/

/-- R340 `NOP`. -/
def execNop (s : State) : Result :=
  sequential (.ok s)

/-- R341 the stack control statement with two clauses or more. -/
def execStackControl (o : StackOps) (s : State) : Result :=
  sequential (stackOps o s)

/-- R342 `PUSH STS`. -/
def execPushSts (s : State) : Result :=
  sequential (pushSts s)

/-- R343 `POP STS`. -/
def execPopSts (s : State) : Result :=
  sequential (popSts s)

/-- R344 `POP CNTR`. -/
def execPopCntr (s : State) : Result :=
  sequential (popCntr s)

/-- R345 `POP PC`. -/
def execPopPc (s : State) : Result :=
  sequential (dropPc s)

/-- R346 `POP LOOP`. -/
def execPopLoop (s : State) : Result :=
  sequential (dropLoop s)

/-- R347 the mode control statement with any number of clauses but one. -/
def execModeControl (o : ModeOps) (s : State) : Result :=
  sequential (.ok (modeOps o s))

/-- R347, R355 `ENA TIMER`. -/
def execEnaTimer (s : State) : Result :=
  sequential (.ok (setMode .timer true s))

/-- R347, R355 `DIS TIMER`. -/
def execDisTimer (s : State) : Result :=
  sequential (.ok (setMode .timer false s))

/-- R347, R354 `ENA M_MODE`. -/
def execEnaMMode (s : State) : Result :=
  sequential (.ok (setMode .mMode true s))

/-- R347, R354 `DIS M_MODE`. -/
def execDisMMode (s : State) : Result :=
  sequential (.ok (setMode .mMode false s))

/-- R347, R351 `ENA AR_SAT`. -/
def execEnaArSat (s : State) : Result :=
  sequential (.ok (setMode .arSat true s))

/-- R347, R351 `DIS AR_SAT`. -/
def execDisArSat (s : State) : Result :=
  sequential (.ok (setMode .arSat false s))

/-- R347, R350 `ENA AV_LATCH`. -/
def execEnaAvLatch (s : State) : Result :=
  sequential (.ok (setMode .avLatch true s))

/-- R347, R350 `DIS AV_LATCH`. -/
def execDisAvLatch (s : State) : Result :=
  sequential (.ok (setMode .avLatch false s))

/-- R347, R349 `ENA BIT_REV`. -/
def execEnaBitRev (s : State) : Result :=
  sequential (.ok (setMode .bitRev true s))

/-- R347, R349 `DIS BIT_REV`. -/
def execDisBitRev (s : State) : Result :=
  sequential (.ok (setMode .bitRev false s))

/-- R347, R352 `ENA SEC_REG`. -/
def execEnaSecReg (s : State) : Result :=
  sequential (.ok (setMode .secReg true s))

/-- R347, R352 `DIS SEC_REG`. -/
def execDisSecReg (s : State) : Result :=
  sequential (.ok (setMode .secReg false s))

/-- R347, R353 `ENA G_MODE`. -/
def execEnaGMode (s : State) : Result :=
  sequential (.ok (setMode .gMode true s))

/-- R347, R353 `DIS G_MODE`. -/
def execDisGMode (s : State) : Result :=
  sequential (.ok (setMode .gMode false s))

/-- R356 `MODIFY (Ii, Mj)`. -/
def execModify (p : Pair) (s : State) : Result :=
  sequential (.ok (postModify p s))

/-- R357 `[IF cond] SET|RESET|TOGGLE flag [, ...]`. -/
def execFlagOut (o : FlagOps) (c : Cond) (s : State) : Result :=
  needs (FlagOps.onlyFo o || s.params.hasFlagPins) (sequential (ifThen c (fun s => .ok (flagOps o s)) s))

/-- R358 `ENA INTS`. -/
def execEnaInts (s : State) : Result :=
  needs s.params.hasIntsInstr (sequential (.ok (s.setInts true)))

/-- R359 `DIS INTS`. -/
def execDisInts (s : State) : Result :=
  needs s.params.hasIntsInstr (sequential (.ok (s.setInts false)))

end Sys2Proof.Machine
end

