-- ==== Sys2Proof/Machine/Move.lean ====
section
/-! DEFINITION. The MOVE instructions: spec/44_move.md, in the order of Table 15.6, and the data
moves that the multifunction instructions share (R280, R89, R88). -/

namespace Sys2Proof.Machine

/-- `x[d] <- rd16(r)` (R282). -/
def moveReg (d r : Reg) (s : State) : Eff State := do
  let (v, s) ← readReg r s
  writeReg d v s

/-- `x[d] <- MemRead(DM:a, 1)` (R283). -/
def loadDirect (d : Reg) (a : Addr) (s : State) : Eff State := do
  let v ← readDm a s
  writeReg d v s

/-- `MemWrite(DM:a, 1, rd16(r))` (R287). -/
def storeDirect (a : Addr) (r : Reg) (s : State) : Eff State := do
  let (v, s) ← readReg r s
  writeDm a v s

/-- `x[d] <- MemRead(DM:ea(i, j), 1)` (R284). -/
def loadDm (d : DReg) (p : Pair) (s : State) : Eff State := do
  let v ← readDm (dmEa p s) s
  .ok (wrD d v (postModify p s))

/-- `MemWrite(DM:ea(i, j), 1, v)` (R285, R286). -/
def storeDm (p : Pair) (v : Word) (s : State) : Eff State := do
  let t ← writeDm (dmEa p s) v s
  .ok (postModify p t)

/-- What a PM data read leaves: bits 23..8 in the register, bits 7..0 in PX (R88). -/
def takePmWord (d : DReg) (w : PmBits) (s : State) : State :=
  wrD d (w.extractLsb' Config.PXW Config.W) (s.setPx (w.extractLsb' 0 Config.PXW))

/-- `x[d] <- w[23:8] ; x[PX] <- w[7:0]` with `w = MemRead(PM:ea(i, j), 1)` (R289). -/
def loadPm (d : DReg) (p : Pair) (s : State) : Eff State := do
  let w ← readPm (pmEa p s) s
  .ok (takePmWord d w (postModify p s))

/-- `MemWrite(PM:ea(i, j), 1, v :: x[PX])` (R290). -/
def storePm (p : Pair) (v : Word) (s : State) : Eff State := do
  let t ← writePm (pmEa p s) (v ++ s.px) s
  .ok (postModify p t)

/-! ### The instructions -/

/-- R282 `reg = reg`. -/
def execRegReg (d : Reg) (r : Reg) (s : State) : Result :=
  sequential (moveReg d r s)

/-- R283 `reg = DM(<address>)`. -/
def execRegDmAddr (d : Reg) (a : Addr) (s : State) : Result :=
  sequential (loadDirect d a s)

/-- R284 `dreg = DM(Ii, Mj)`. -/
def execDregDm (d : DReg) (p : Pair) (s : State) : Result :=
  sequential (loadDm d p s)

/-- R285 `DM(Ii, Mj) = dreg`. -/
def execDmDreg (p : Pair) (r : DReg) (s : State) : Result :=
  sequential (storeDm p (rdD r s) s)

/-- R286 `DM(Ii, Mj) = <data>`. -/
def execDmData (p : Pair) (v : Word) (s : State) : Result :=
  sequential (storeDm p v s)

/-- R287 `DM(<address>) = reg`. -/
def execDmAddrReg (a : Addr) (r : Reg) (s : State) : Result :=
  sequential (storeDirect a r s)

/-- R288 `dreg = <data>`. -/
def execDregData (d : DReg) (v : Word) (s : State) : Result :=
  sequential (.ok (wrD d v s))

/-- R288 `reg = <data>`, the reg no dreg, the constant 14 bits. -/
def execRegData (d : Reg) (v : Addr) (s : State) : Result :=
  sequential (writeReg d (v.signExtend Config.W) s)

/-- R289 `dreg = PM(Ii, Mj)`. -/
def execDregPm (d : DReg) (p : Pair) (s : State) : Result :=
  sequential (loadPm d p s)

/-- R290 `PM(Ii, Mj) = dreg`. -/
def execPmDreg (p : Pair) (r : DReg) (s : State) : Result :=
  sequential (storePm p (rdD r s) s)

end Sys2Proof.Machine
end

