-- ==== Sys2Proof/Machine/Shifter.lean ====
section
/-! DEFINITION. The Shifter instructions: spec/43_shifter.md, in the order of Table 15.5. -/

namespace Sys2Proof.Machine

/-- `floor (v * 2^s)`. -/
def scale (v s : Int) : Int :=
  if 0 ≤ s then v * 2 ^ s.toNat else v / 2 ^ (-s).toNat

/-- `shift32` (R252): the operand, signed where `ar`, at bit 16 for HI or bit 0 for LO, times two to
the amount, rounded down, reduced to 32 bits. -/
def shift32 (v : Word) (amt : Int) (h : Half) (ar : Bool) : BitVec Config.SRW :=
  BitVec.ofInt Config.SRW
    (scale (if ar then v.toInt else v.toNat) (amt + (if h = .hi then (Config.W : Int) else 0)))

/-- `sr_write` (R250): ORed into SR, or passed directly. -/
def writeSr (o : Bool) (r : BitVec Config.SRW) (s : State) : State :=
  s.setBank (s.bank.withSr (if o then s.bank.sr ||| r else r))

/-- `norm_fn`, open (R255; log 12). -/
def normFn (v : Word) (se : BitVec Config.SEW) (h : Half) (ac : Bool) : BitVec Config.SRW :=
  Config.normFn v se h ac

/-- `exp_fn`, open (R256; log 12). -/
def expFn (v : Word) (m : ExpMode) (se : BitVec Config.SEW) (ss av : Bool) :
    BitVec Config.SEW × Bool :=
  Config.expFn v m se ss av

/-- `expadj_fn`, open (R257; log 12). -/
def expadjFn (v : Word) (sb : BitVec Config.SBW) : BitVec Config.SBW := Config.expadjFn v sb

/-- The 32 bits of a shift that SE controls (R253 to R255). -/
def shiftBySe (n : ShiftKind) (h : Half) (v : Word) (s : State) : BitVec Config.SRW :=
  match n with
  | .ashift => shift32 v s.bank.se.toInt h true
  | .lshift => shift32 v s.bank.se.toInt h false
  | .norm => normFn v s.bank.se h (s.flag .ac)

/-- A Shifter computation: its operands from `s`, its results written over `t` (R151, R253 to
R257). -/
def evalShift (f : ShiftFn) (s t : State) : State :=
  match f with
  | .shift n o h x => writeSr o (shiftBySe n h (xShift x s) s) t
  | .exp m x =>
    let r := expFn (xShift x s) m s.bank.se (s.flag .ss) (s.flag .av)
    (t.setBank { t.bank with se := r.1 }).setAstat (withFlag t.astat .ss r.2)
  | .expadj x => t.setBank { t.bank with sb := expadjFn (xShift x s) s.bank.sb }

/-- A Shifter instruction under `[IF cond]` (R250). -/
def shiftIf (c : Cond) (f : State → State → State) (s : State) : Result :=
  sequential (ifThen c (fun s => .ok (f s s)) s)

/-! ### The instructions -/

/-- R253 `[IF cond] SR = [SR OR] ASHIFT xop (HI|LO)`; `o` is `SR OR`. -/
def execAshift (o : Bool) (x : XShift) (h : Half) (c : Cond) (s : State) : Result :=
  shiftIf c (evalShift (.shift .ashift o h x)) s

/-- R254 `[IF cond] SR = [SR OR] LSHIFT xop (HI|LO)`; `o` is `SR OR`. -/
def execLshift (o : Bool) (x : XShift) (h : Half) (c : Cond) (s : State) : Result :=
  shiftIf c (evalShift (.shift .lshift o h x)) s

/-- R255 `[IF cond] SR = [SR OR] NORM xop (HI|LO)`; `o` is `SR OR`. -/
def execNorm (o : Bool) (x : XShift) (h : Half) (c : Cond) (s : State) : Result :=
  shiftIf c (evalShift (.shift .norm o h x)) s

/-- R256 `[IF cond] SE = EXP xop (HI)`. -/
def execExpHi (x : XShift) (c : Cond) (s : State) : Result :=
  shiftIf c (evalShift (.exp .hi x)) s

/-- R256 `[IF cond] SE = EXP xop (HIX)`. -/
def execExpHix (x : XShift) (c : Cond) (s : State) : Result :=
  shiftIf c (evalShift (.exp .hix x)) s

/-- R256 `[IF cond] SE = EXP xop (LO)`. -/
def execExpLo (x : XShift) (c : Cond) (s : State) : Result :=
  shiftIf c (evalShift (.exp .lo x)) s

/-- R257 `[IF cond] SB = EXPADJ xop`. -/
def execExpadj (x : XShift) (c : Cond) (s : State) : Result :=
  shiftIf c (evalShift (.expadj x)) s

/-- R258 `SR = [SR OR] ASHIFT xop BY <exp> (HI|LO)`. -/
def execAshiftImm (o : Bool) (x : XShift) (e : Exp8) (h : Half) (s : State) : Result :=
  sequential (.ok (writeSr o (shift32 (xShift x s) e.toInt h true) s))

/-- R259 `SR = [SR OR] LSHIFT xop BY <exp> (HI|LO)`. -/
def execLshiftImm (o : Bool) (x : XShift) (e : Exp8) (h : Half) (s : State) : Result :=
  sequential (.ok (writeSr o (shift32 (xShift x s) e.toInt h false) s))

end Sys2Proof.Machine
end

