-- ==== Sys2Proof/Machine/Multi.lean ====
section
/-! DEFINITION. The multifunction instructions: spec/40_multifunction.md, in the order of Table 15.2.
Every clause reads the state before the instruction, then all results are written (R151). -/

namespace Sys2Proof.Machine

/-- An ALU or MAC computation clause: its operands from `s`, its results written over `t` (R151). -/
def evalComp (o : Comp) (s t : State) : State :=
  match o with
  | .alu f z => writeAlu z (evalAlu f s) t
  | .mac f z => writeMac z (evalMac f s) t

/-- A computation clause's writes over the state that the moves leave (R151). -/
def withClause (w : State → State) (moves : State → Eff State) (s : State) : Eff State := do
  let t ← moves s
  .ok (w t)

/-- The two reads of R152 and R153, the PM access first (R96). -/
def twoReads (d : XDual) (p : Pair) (e : YDual) (q : Pair) (s : State) : Eff State := do
  let w ← readPm (pmEa q s) s
  let v ← readDm (dmEa p s) s
  .ok (takePmWord (yDualReg e) w (wrD (xDualReg d) v (postModify q (postModify p s))))

/-- The data registers an ALU or MAC clause writes (R160). -/
def Comp.writes : Comp → DReg → Bool
  | .alu _ .ar, d => d == .ar
  | .alu _ .af, _ => false
  | .mac _ .mr, d => d == .mr0 || d == .mr1 || d == .mr2
  | .mac _ .mf, _ => false

/-- The data registers a Shifter clause writes (R160). -/
def ShiftFn.writes : ShiftFn → DReg → Bool
  | .shift _ _ _ _, d => d == .sr0 || d == .sr1
  | .exp _ _, d => d == .se
  | .expadj _, _ => false

/-- Two clauses that write one register are refused (R160). -/
def unlessClash (writes : DReg → Bool) (d : DReg) (r : Result) : Result :=
  if writes d then .refused (.twoWrites d) else r

/-! ### The instructions -/

/-- R152 `<ALU>|<MAC>, AX0|AX1|MX0|MX1 = DM(Ii, Mj), AY0|AY1|MY0|MY1 = PM(Ik, Ml)`. -/
def execCompDmPm (o : Comp) (d : XDual) (p : Pair) (e : YDual) (q : Pair) (s : State) : Result :=
  sequential (withClause (evalComp o s) (twoReads d p e q) s)

/-- R153 `AX0|AX1|MX0|MX1 = DM(Ii, Mj), AY0|AY1|MY0|MY1 = PM(Ik, Ml)`. -/
def execDualRead (d : XDual) (p : Pair) (e : YDual) (q : Pair) (s : State) : Result :=
  sequential (twoReads d p e q s)

/-- R154 `<ALU>|<MAC>, dreg = DM(Ii, Mj)`. -/
def execCompDm (o : Comp) (d : DReg) (p : Pair) (s : State) : Result :=
  unlessClash (Comp.writes o) d (sequential (withClause (evalComp o s) (loadDm d p) s))

/-- R154 `<SHIFT>, dreg = DM(Ii, Mj)`. -/
def execShiftDm (o : ShiftFn) (d : DReg) (p : Pair) (s : State) : Result :=
  unlessClash (ShiftFn.writes o) d (sequential (withClause (evalShift o s) (loadDm d p) s))

/-- R155 `<ALU>|<MAC>, dreg = PM(Ii, Mj)`. -/
def execCompPm (o : Comp) (d : DReg) (p : Pair) (s : State) : Result :=
  unlessClash (Comp.writes o) d (sequential (withClause (evalComp o s) (loadPm d p) s))

/-- R155 `<SHIFT>, dreg = PM(Ii, Mj)`. -/
def execShiftPm (o : ShiftFn) (d : DReg) (p : Pair) (s : State) : Result :=
  unlessClash (ShiftFn.writes o) d (sequential (withClause (evalShift o s) (loadPm d p) s))

/-- R156 `DM(Ii, Mj) = dreg, <ALU>|<MAC>`. -/
def execDmComp (p : Pair) (r : DReg) (o : Comp) (s : State) : Result :=
  sequential (withClause (evalComp o s) (storeDm p (rdD r s)) s)

/-- R156 `DM(Ii, Mj) = dreg, <SHIFT>`. -/
def execDmShift (p : Pair) (r : DReg) (o : ShiftFn) (s : State) : Result :=
  sequential (withClause (evalShift o s) (storeDm p (rdD r s)) s)

/-- R157 `PM(Ii, Mj) = dreg, <ALU>|<MAC>`. -/
def execPmComp (p : Pair) (r : DReg) (o : Comp) (s : State) : Result :=
  sequential (withClause (evalComp o s) (storePm p (rdD r s)) s)

/-- R157 `PM(Ii, Mj) = dreg, <SHIFT>`. -/
def execPmShift (p : Pair) (r : DReg) (o : ShiftFn) (s : State) : Result :=
  sequential (withClause (evalShift o s) (storePm p (rdD r s)) s)

/-- R158 `<ALU>|<MAC>, dreg = dreg`. -/
def execCompMove (o : Comp) (d : DReg) (r : DReg) (s : State) : Result :=
  unlessClash (Comp.writes o) d (sequential (withClause (evalComp o s) (fun s => .ok (wrD d (rdD r s) s)) s))

/-- R158 `<SHIFT>, dreg = dreg`. -/
def execShiftMove (o : ShiftFn) (d : DReg) (r : DReg) (s : State) : Result :=
  unlessClash (ShiftFn.writes o) d (sequential (withClause (evalShift o s) (fun s => .ok (wrD d (rdD r s) s)) s))

end Sys2Proof.Machine
end

