-- ==== Sys2Proof/Machine/Dispatch.lean ====
section
/-! DEFINITION. One arm per constructor of `Instr`, each a direct call of its meaning. -/

namespace Sys2Proof.Machine

def exec (i : Instr) (s : State) : Host.Outcome State Fault Refusal :=
  match i with
  | .addXY z x y c => Sys2Proof.Machine.execAddXY z x y c s
  | .addXC z x c => Sys2Proof.Machine.execAddXC z x c s
  | .addXYC z x y c => Sys2Proof.Machine.execAddXYC z x y c s
  | .addXK z x k c => Sys2Proof.Machine.execAddXK z x k c s
  | .addXKC z x k c => Sys2Proof.Machine.execAddXKC z x k c s
  | .addXNK z x k c => Sys2Proof.Machine.execAddXNK z x k c s
  | .addXNKC z x k c => Sys2Proof.Machine.execAddXNKC z x k c s
  | .subXY z x y c => Sys2Proof.Machine.execSubXY z x y c s
  | .subXYC z x y c => Sys2Proof.Machine.execSubXYC z x y c s
  | .subXC z x c => Sys2Proof.Machine.execSubXC z x c s
  | .subXK z x k c => Sys2Proof.Machine.execSubXK z x k c s
  | .subXKC z x k c => Sys2Proof.Machine.execSubXKC z x k c s
  | .subXNK z x k c => Sys2Proof.Machine.execSubXNK z x k c s
  | .subXNKC z x k c => Sys2Proof.Machine.execSubXNKC z x k c s
  | .subYX z x y c => Sys2Proof.Machine.execSubYX z x y c s
  | .subYXC z x y c => Sys2Proof.Machine.execSubYXC z x y c s
  | .negXC z x c => Sys2Proof.Machine.execNegXC z x c s
  | .subKX z x k c => Sys2Proof.Machine.execSubKX z x k c s
  | .subKXC z x k c => Sys2Proof.Machine.execSubKXC z x k c s
  | .subNKX z x k c => Sys2Proof.Machine.execSubNKX z x k c s
  | .subNKXC z x k c => Sys2Proof.Machine.execSubNKXC z x k c s
  | .andXY z x y c => Sys2Proof.Machine.execAndXY z x y c s
  | .andXK z x k c => Sys2Proof.Machine.execAndXK z x k c s
  | .andXNK z x k c => Sys2Proof.Machine.execAndXNK z x k c s
  | .orXY z x y c => Sys2Proof.Machine.execOrXY z x y c s
  | .orXK z x k c => Sys2Proof.Machine.execOrXK z x k c s
  | .orXNK z x k c => Sys2Proof.Machine.execOrXNK z x k c s
  | .xorXY z x y c => Sys2Proof.Machine.execXorXY z x y c s
  | .xorXK z x k c => Sys2Proof.Machine.execXorXK z x k c s
  | .xorXNK z x k c => Sys2Proof.Machine.execXorXNK z x k c s
  | .tstbit z x k c => Sys2Proof.Machine.execTstbit z x k c s
  | .setbit z x k c => Sys2Proof.Machine.execSetbit z x k c s
  | .clrbit z x k c => Sys2Proof.Machine.execClrbit z x k c s
  | .tglbit z x k c => Sys2Proof.Machine.execTglbit z x k c s
  | .passX z x c => Sys2Proof.Machine.execPassX z x c s
  | .passY z y c => Sys2Proof.Machine.execPassY z y c s
  | .pass0 z c => Sys2Proof.Machine.execPass0 z c s
  | .pass1 z c => Sys2Proof.Machine.execPass1 z c s
  | .passM1 z c => Sys2Proof.Machine.execPassM1 z c s
  | .passK z k c => Sys2Proof.Machine.execPassK z k c s
  | .passNK z k c => Sys2Proof.Machine.execPassNK z k c s
  | .negX z x c => Sys2Proof.Machine.execNegX z x c s
  | .negY z y c => Sys2Proof.Machine.execNegY z y c s
  | .notX z x c => Sys2Proof.Machine.execNotX z x c s
  | .notY z y c => Sys2Proof.Machine.execNotY z y c s
  | .absX z x c => Sys2Proof.Machine.execAbsX z x c s
  | .incY z y c => Sys2Proof.Machine.execIncY z y c s
  | .decY z y c => Sys2Proof.Machine.execDecY z y c s
  | .divs y x => Sys2Proof.Machine.execDivs y x s
  | .divq x => Sys2Proof.Machine.execDivq x s
  | .noneAlu f => Sys2Proof.Machine.execNoneAlu f s
  | .mulRnd z x y c => Sys2Proof.Machine.execMulRnd z x y c s
  | .mulSs z x y c => Sys2Proof.Machine.execMulSs z x y c s
  | .mulSu z x y c => Sys2Proof.Machine.execMulSu z x y c s
  | .mulUs z x y c => Sys2Proof.Machine.execMulUs z x y c s
  | .mulUu z x y c => Sys2Proof.Machine.execMulUu z x y c s
  | .macRnd z x y c => Sys2Proof.Machine.execMacRnd z x y c s
  | .macSs z x y c => Sys2Proof.Machine.execMacSs z x y c s
  | .macSu z x y c => Sys2Proof.Machine.execMacSu z x y c s
  | .macUs z x y c => Sys2Proof.Machine.execMacUs z x y c s
  | .macUu z x y c => Sys2Proof.Machine.execMacUu z x y c s
  | .msubRnd z x y c => Sys2Proof.Machine.execMsubRnd z x y c s
  | .msubSs z x y c => Sys2Proof.Machine.execMsubSs z x y c s
  | .msubSu z x y c => Sys2Proof.Machine.execMsubSu z x y c s
  | .msubUs z x y c => Sys2Proof.Machine.execMsubUs z x y c s
  | .msubUu z x y c => Sys2Proof.Machine.execMsubUu z x y c s
  | .square z n m x c => Sys2Proof.Machine.execSquare z n m x c s
  | .mrZero z c => Sys2Proof.Machine.execMrZero z c s
  | .mrMr z c => Sys2Proof.Machine.execMrMr z c s
  | .mrMrRnd z c => Sys2Proof.Machine.execMrMrRnd z c s
  | .satMr => Sys2Proof.Machine.execSatMr s
  | .ashift o x h c => Sys2Proof.Machine.execAshift o x h c s
  | .lshift o x h c => Sys2Proof.Machine.execLshift o x h c s
  | .norm o x h c => Sys2Proof.Machine.execNorm o x h c s
  | .expHi x c => Sys2Proof.Machine.execExpHi x c s
  | .expHix x c => Sys2Proof.Machine.execExpHix x c s
  | .expLo x c => Sys2Proof.Machine.execExpLo x c s
  | .expadj x c => Sys2Proof.Machine.execExpadj x c s
  | .ashiftImm o x e h => Sys2Proof.Machine.execAshiftImm o x e h s
  | .lshiftImm o x e h => Sys2Proof.Machine.execLshiftImm o x e h s
  | .regReg d r => Sys2Proof.Machine.execRegReg d r s
  | .regDmAddr d a => Sys2Proof.Machine.execRegDmAddr d a s
  | .dregDm d p => Sys2Proof.Machine.execDregDm d p s
  | .dmDreg p r => Sys2Proof.Machine.execDmDreg p r s
  | .dmData p v => Sys2Proof.Machine.execDmData p v s
  | .dmAddrReg a r => Sys2Proof.Machine.execDmAddrReg a r s
  | .dregData d v => Sys2Proof.Machine.execDregData d v s
  | .regData d v => Sys2Proof.Machine.execRegData d v s
  | .dregPm d p => Sys2Proof.Machine.execDregPm d p s
  | .pmDreg p r => Sys2Proof.Machine.execPmDreg p r s
  | .jumpAddr a c => Sys2Proof.Machine.execJumpAddr a c s
  | .jumpInd k c => Sys2Proof.Machine.execJumpInd k c s
  | .jumpFlag n a => Sys2Proof.Machine.execJumpFlag n a s
  | .callAddr a c => Sys2Proof.Machine.execCallAddr a c s
  | .callInd k c => Sys2Proof.Machine.execCallInd k c s
  | .callFlag n a => Sys2Proof.Machine.execCallFlag n a s
  | .rts c => Sys2Proof.Machine.execRts c s
  | .rti c => Sys2Proof.Machine.execRti c s
  | .doUntil a t => Sys2Proof.Machine.execDoUntil a t s
  | .idle => Sys2Proof.Machine.execIdle s
  | .idleN n => Sys2Proof.Machine.execIdleN n s
  | .nop => Sys2Proof.Machine.execNop s
  | .stackControl o => Sys2Proof.Machine.execStackControl o s
  | .pushSts => Sys2Proof.Machine.execPushSts s
  | .popSts => Sys2Proof.Machine.execPopSts s
  | .popCntr => Sys2Proof.Machine.execPopCntr s
  | .popPc => Sys2Proof.Machine.execPopPc s
  | .popLoop => Sys2Proof.Machine.execPopLoop s
  | .modeControl o => Sys2Proof.Machine.execModeControl o s
  | .enaTimer => Sys2Proof.Machine.execEnaTimer s
  | .disTimer => Sys2Proof.Machine.execDisTimer s
  | .enaMMode => Sys2Proof.Machine.execEnaMMode s
  | .disMMode => Sys2Proof.Machine.execDisMMode s
  | .enaArSat => Sys2Proof.Machine.execEnaArSat s
  | .disArSat => Sys2Proof.Machine.execDisArSat s
  | .enaAvLatch => Sys2Proof.Machine.execEnaAvLatch s
  | .disAvLatch => Sys2Proof.Machine.execDisAvLatch s
  | .enaBitRev => Sys2Proof.Machine.execEnaBitRev s
  | .disBitRev => Sys2Proof.Machine.execDisBitRev s
  | .enaSecReg => Sys2Proof.Machine.execEnaSecReg s
  | .disSecReg => Sys2Proof.Machine.execDisSecReg s
  | .enaGMode => Sys2Proof.Machine.execEnaGMode s
  | .disGMode => Sys2Proof.Machine.execDisGMode s
  | .modify p => Sys2Proof.Machine.execModify p s
  | .flagOut o c => Sys2Proof.Machine.execFlagOut o c s
  | .enaInts => Sys2Proof.Machine.execEnaInts s
  | .disInts => Sys2Proof.Machine.execDisInts s
  | .compDmPm o d p e q => Sys2Proof.Machine.execCompDmPm o d p e q s
  | .dualRead d p e q => Sys2Proof.Machine.execDualRead d p e q s
  | .compDm o d p => Sys2Proof.Machine.execCompDm o d p s
  | .shiftDm o d p => Sys2Proof.Machine.execShiftDm o d p s
  | .compPm o d p => Sys2Proof.Machine.execCompPm o d p s
  | .shiftPm o d p => Sys2Proof.Machine.execShiftPm o d p s
  | .dmComp p r o => Sys2Proof.Machine.execDmComp p r o s
  | .dmShift p r o => Sys2Proof.Machine.execDmShift p r o s
  | .pmComp p r o => Sys2Proof.Machine.execPmComp p r o s
  | .pmShift p r o => Sys2Proof.Machine.execPmShift p r o s
  | .compMove o d r => Sys2Proof.Machine.execCompMove o d r s
  | .shiftMove o d r => Sys2Proof.Machine.execShiftMove o d r s

end Sys2Proof.Machine
end

