-- ==== Sys2Proof/Machine/Environment.lean ====
section
/-! DEFINITION. The moves of the agents outside the core, each between two instructions:
spec/60_exceptions.md R381, R383, R392, R395, spec/20_memory.md R97. -/

namespace Sys2Proof.Machine

/-- The source with IMASK bit `b`, if the member has one (R382). -/
def sourceOf (b : Fin 16) (s : State) : Option IntSource :=
  s.params.sources.find? (fun src => src.bit == b)

/-- `request(s)` (R381): the timer requests only while MSTAT.TIMER is 1 (R392); a bit that is no
source's requests nothing. -/
def request (b : Fin 16) (s : State) : State :=
  if (sourceOf b s).isSome && (s.params.timerBit != some b || s.mode .timer) then
    s.setPending (withBit s.pending b true)
  else s

/-- The device of a level-sensitive source withdraws its request (R383). -/
def withdraw (b : Fin 16) (s : State) : State :=
  match sourceOf b s with
  | none => s
  | some src => if isEdge s src then s else s.setPending (withBit s.pending b false)

/-- The program has written the PM address since launch (R85, R100). -/
def programWrote (a : Addr) (s : State) : Bool :=
  match s.pm.lookup a.toNat with
  | some (.word _ written) => written
  | some (.stmt _) => false
  | none => false

/-- A write of a PM word by an agent outside the core: an address the program has written stays so
marked (R100), and another gets no mark (log 31). -/
def writePmOutside (a : Addr) (w : PmBits) (s : State) : Eff State :=
  writeCell a w (programWrote a s) s

/-- One move of an agent (R97, R395, R396). Autobuffering uses and modifies an I register by its M
register (GK3). DESIGN CHOICE (log 14): R395 does not say which M register that is, so the move names
any I with any M, also of different address generators, and no `sameDag` check is made. A DMA move needs `has_dma`, another bus master's write does not. DESIGN CHOICE
(log 35): a write or an autobuffer read that the launch map does not admit, or at a control register,
ends the run as an instruction's access would; a DMA read is not looked up. -/
def envMove (m : EnvMove) (s : State) : Eff State :=
  match m with
  | .request b => .ok (request b s)
  | .withdraw b => .ok (withdraw b s)
  | .dmaRead _ _ => .ok s
  | .dmaWriteDm a w => if s.params.hasDma then writeDm a w s else .ok s
  | .dmaWritePm a w => if s.params.hasDma then writePmOutside a w s else .ok s
  | .busWriteDm a w => writeDm a w s
  | .busWritePm a w => writePmOutside a w s
  | .autoIn port p w => do
    let t ← writeDm (dmEa p s) w s
    .ok (postModify p (writeRx port w t))
  | .autoOut port p => do
    let v ← readDm (dmEa p s) s
    .ok (postModify p (writeTx port v s))

end Sys2Proof.Machine
end

