-- ==== Sys2Proof/Machine/Turn.lean ====
section
/-! DEFINITION. A turn of the core, a turn of whoever `env` names, and the launch of one word:
spec/00_scope.md R12, spec/60_exceptions.md R385, R390, spec/20_memory.md R86, R97. -/

namespace Sys2Proof.Machine

/-- A turn of the core (R385, R390): a deliverable interrupt is delivered; else an idle core takes
no step; else the instruction at `pc` is fetched and executed. -/
def coreTurn (s : State) : Result :=
  match deliverable s with
  | some src => finish (takeInterrupt src s)
  | none =>
    if s.idle then .next s
    else
      match fetch s with
      | .ok i => exec i s
      | .error e => finish (.error e)

/-- One turn: the core's, or the environment's where `env` says so (log 14). -/
def turn (s : State) : Result :=
  match s.env with
  | [] => coreTurn s
  | none :: rest => coreTurn (s.setEnv rest)
  | some m :: rest => finish (envMove m (s.setEnv rest))

/-- The launch map with memory at `a`. -/
def mapWith (a : Nat) (m : List Region) : List Region :=
  if regionKind m a = some .ram then m else { lo := a, hi := a, kind := .ram } :: m

/-- The state with one word launched at `pc`, the next turn the core's own, and nothing to deliver
before it (log 7). -/
def launchWord (w : PmBits) (s : State) : State :=
  let s := { s with params := { s.params with pmMap := mapWith s.pc.toNat s.params.pmMap } }
  let s := ((s.setPm (s.pm.store s.pc.toNat (.word w false))).setIdle false).setEnv []
  if (deliverable s).isSome then s.setPending 0 else s

end Sys2Proof.Machine
end

