-- ==== Sys2Proof/Machine/Step.lean ====
section
/-! DEFINITION. The step function (spec/00_scope.md R12, spec/45_program_flow.md R300). -/

namespace Sys2Proof.Machine

/-- One step of the machine. -/
def step (s : State) : Host.Outcome State Fault Refusal := turn s

/-- `s` with the instruction word `w` of `nbits` bits stored where `step` fetches next (log 7). -/
def State.withFetchWord (s : State) (nbits w : Nat) : State :=
  launchWord (BitVec.ofNat Config.IW (w % 2 ^ nbits)) s

end Sys2Proof.Machine
end

