-- ==== Sys2Proof/Safety.lean ====
section
/-! DEFINITION. The terms claims use: a state from which the sequential pc is the next address, the
well-formedness that every step keeps, and a run that no model outcome ends. -/

namespace Sys2Proof.Machine

/-- The instruction at `pc` is the last of the loop on top of the loop stack
(spec/45_program_flow.md R308). -/
def AtLoopEnd (s : State) : Prop := ∃ e rest, s.stk.loop = e :: rest ∧ e.last = s.pc

/-- After an instruction that does not assign `pc`, the next address is `pc + 1`
(spec/45_program_flow.md R300, spec/10_state.md R25). -/
def Straight (s : State) : Prop := s.pc ≠ 0x3FFF#14 ∧ ¬ AtLoopEnd s

/-- `s` with `pc` at the following instruction (spec/10_state.md R25). -/
def State.stepped (s : State) : State := s.setPc (s.pc + 1)

/-- A memory of a map: canonical, and nothing listed outside what the map holds as memory
(spec/20_memory.md R85, R86). -/
def MemoryOk {α : Type} (m : Memory α) (map : List Region) : Prop :=
  Memory.wf m ∧ ∀ x ∈ m, regionKind map x.1 = some .ram

/-- No stack holds more than its depth (spec/10_state.md R37). -/
def StacksOk (s : State) : Prop :=
  s.stk.pc.length ≤ s.params.pcDepth ∧ s.stk.cntr.length ≤ s.params.cntrDepth ∧
    s.stk.loop.length ≤ s.params.loopDepth ∧ s.stk.sts.length ≤ s.params.stsDepth

/-- Every bit of a mask from `n` up is 0. -/
def Narrow (n : Nat) (m : Word) : Prop := ∀ k, n ≤ k → m.getLsbD k = false

/-- IMASK, IFC and every saved IMASK have the member's widths (spec/10_state.md R30, R37). -/
def MasksOk (s : State) : Prop :=
  Narrow s.params.imaskWidth s.imask ∧ Narrow s.params.ifcWidth s.ifc ∧
    ∀ e ∈ s.stk.sts, Narrow s.params.imaskWidth e.imask

/-- Every pending bit is a source's (spec/60_exceptions.md R381, R382). -/
def PendingOk (s : State) : Prop :=
  ∀ b : Fin 16, s.pending.getLsbD b.val = true → ∃ src ∈ s.params.sources, src.bit = b

/-- What every step keeps. -/
def Inv (s : State) : Prop :=
  MemoryOk s.dm s.params.dmMap ∧ MemoryOk s.pm s.params.pmMap ∧ StacksOk s ∧ MasksOk s ∧
    PendingOk s

/-- A run of `k` steps that no fault and no refusal ends. -/
def SafeRun (s : State) : Nat → Prop
  | 0 => True
  | k + 1 => ∃ t, step s = .next t ∧ SafeRun t k

end Sys2Proof.Machine
end

