-- ==== Sys2Proof/Certificates/Slice0/Obligations.lean ====
section
/-! DEFINITION. The statements for the provers. The vocabulary they share (namespace Sys2Proof.Claims)
tells the spec's formulas a second time, in other terms than the model's: sums and differences of
integers for the adder, ranges for the overflow flags, bit-vector shifts for the Shifter. -/

namespace Sys2Proof.Claims

open Sys2Proof.Machine

/-! ### Conditions -/

/-- The instruction's condition holds in `s`, `s1` is the state after its evaluation, and the next
sequential address is `pc + 1` (spec/30_encoding.md R125, spec/45_program_flow.md R300). -/
def When (c : Cond) (s s1 : State) : Prop := evalCond c s = .ok (true, s1) ∧ Straight s

/-- The condition table on AZ, AN, AV, AC, AS, MV, each a bit of ASTAT (spec/30_encoding.md R124). -/
def truth (a : BitVec 8) : Cond → Bool
  | .eq => a.getLsbD 0
  | .ne => !a.getLsbD 0
  | .lt => a.getLsbD 1 != a.getLsbD 2
  | .ge => a.getLsbD 1 == a.getLsbD 2
  | .le => (a.getLsbD 1 != a.getLsbD 2) || a.getLsbD 0
  | .gt => (a.getLsbD 1 == a.getLsbD 2) && !a.getLsbD 0
  | .av => a.getLsbD 2
  | .notAv => !a.getLsbD 2
  | .ac => a.getLsbD 3
  | .notAc => !a.getLsbD 3
  | .neg => a.getLsbD 4
  | .pos => !a.getLsbD 4
  | .mv => a.getLsbD 6
  | .notMv => !a.getLsbD 6
  | .notCe => true
  | .always => true

/-- The truth of a termination that is not CE (spec/30_encoding.md R123). -/
def termTruth (a : BitVec 8) : Term → Bool
  | .eq => truth a .eq
  | .ne => truth a .ne
  | .lt => truth a .lt
  | .ge => truth a .ge
  | .le => truth a .le
  | .gt => truth a .gt
  | .av => truth a .av
  | .notAv => truth a .notAv
  | .ac => truth a .ac
  | .notAc => truth a .notAc
  | .neg => truth a .neg
  | .pos => truth a .pos
  | .mv => truth a .mv
  | .notMv => truth a .notMv
  | .ce => false
  | .forever => false

/-! ### The ALU (spec/41_alu.md) -/

/-- ASTAT with AZ, AN, AV, AC replaced (R26). -/
def aluFlags (a : BitVec 8) (z n v c : Bool) : BitVec 8 :=
  a.extractLsb' 4 4 ++ BitVec.ofBool c ++ BitVec.ofBool v ++ BitVec.ofBool n ++ BitVec.ofBool z

/-- The state after an ALU operation of result `r`, overflow `v` and carry `c`: AR under AR_SAT or
AF (R175), AV latched under AV_LATCH (R174), the next pc. -/
def aluResult (z : AluDest) (s : State) (r : Word) (v c : Bool) : State :=
  let kept := if s.mode .arSat && v then (if c then 0x8000#16 else 0x7FFF#16) else r
  let b := match z with
    | .ar => { s.bank with ar := kept }
    | .af => { s.bank with af := r }
  ((s.setBank b).setAstat (aluFlags s.astat (r == 0) (decide (32768 ≤ r.toNat))
    (v || (s.mode .avLatch && s.flag .av)) c)).stepped

/-- An integer that 16 bits hold as a signed number. -/
def fits16 (n : Int) : Bool := decide (-32768 ≤ n) && decide (n ≤ 32767)

/-- The state after `a + b + cin` (R172). -/
def sumResult (z : AluDest) (s : State) (a b : Word) (cin : Bool) : State :=
  aluResult z s (BitVec.ofNat 16 (a.toNat + b.toNat + cin.toNat))
    (!fits16 (a.toInt + b.toInt + cin.toNat)) (decide (65536 ≤ a.toNat + b.toNat + cin.toNat))

/-- The state after `p - q`, or `p - q - 1` with a borrow: AC is "no borrow occurred" (R172). -/
def diffResult (z : AluDest) (s : State) (p q : Word) (borrow : Bool) : State :=
  aluResult z s (BitVec.ofInt 16 (p.toInt - q.toInt - borrow.toNat))
    (!fits16 (p.toInt - q.toInt - borrow.toNat)) (decide (q.toNat + borrow.toNat ≤ p.toNat))

/-- The state after a logic operation of result `r` (R173). -/
def logicResult (z : AluDest) (s : State) (r : Word) : State := aluResult z s r false false

/-- The constant 2^k (spec/30_encoding.md R121). -/
def pow2 (k : Bit) : Word := BitVec.ofNat 16 (2 ^ k.val)

/-- The constant NOT 2^k (spec/30_encoding.md R121). -/
def notPow2 (k : Bit) : Word := BitVec.ofNat 16 (65535 - 2 ^ k.val)

/-- The value of a constant operand: 2^k, or the word itself (spec/30_encoding.md R121). -/
def constVal : Constant → Word
  | .pow k => pow2 k
  | .other v => v

/-- The member has the constant forms, and `v` is one of its constants (spec/30_encoding.md R121). -/
def HasConst (s : State) (v : Word) : Prop :=
  s.params.hasAluConstants = true ∧ v ∈ s.params.aluConstants

/-- AC before the instruction: the carry-in `C` of an expression (R170). -/
def carryIn (s : State) : Bool := s.astat.getLsbD 3

/-! ### The MAC (spec/42_mac.md) -/

/-- The state after a MAC operation with 40-bit result `r` (R223, R231). -/
def macResult (z : MacDest) (s : State) (r : Acc) : State :=
  let b := match z with
    | .mr => { s.bank with
        mr2 := BitVec.ofNat 8 (r.toNat / 2 ^ 32), mr1 := BitVec.ofNat 16 (r.toNat / 2 ^ 16),
        mr0 := BitVec.ofNat 16 r.toNat }
    | .mf => { s.bank with mf := BitVec.ofNat 16 (r.toNat / 2 ^ 16) }
  let mv := !(decide (-2147483648 ≤ r.toInt) && decide (r.toInt ≤ 2147483647))
  ((s.setBank b).setAstat
    (s.astat.extractLsb' 7 1 ++ BitVec.ofBool mv ++ s.astat.extractLsb' 0 6)).stepped

/-- The accumulator as a signed integer (R33). -/
def mrInt (s : State) : Int :=
  s.bank.mr2.toInt * 2 ^ 32 + s.bank.mr1.toNat * 2 ^ 16 + s.bank.mr0.toNat

/-- The product as an integer, doubled in fractional mode (R222). -/
def placed (s : State) (p : Int) : Int := if s.mode .mMode then p else 2 * p

/-- A 40-bit result from an exact integer (R222). -/
def acc (n : Int) : Acc := BitVec.ofInt 40 n

/-! ### The Shifter (spec/43_shifter.md) -/

/-- `shift32` as shifts of a 32-bit vector (R252). -/
def shifted (v : Word) (amount : Int) (h : Half) (signed : Bool) : BitVec 32 :=
  let w := if signed then v.signExtend 32 else v.setWidth 32
  let n := amount + (if h = .hi then 16 else 0)
  if 0 ≤ n then w <<< n.toNat
  else if signed then w.sshiftRight (-n).toNat else w >>> (-n).toNat

/-- The state after a shift with result `r`, ORed into SR where `o` (R250). -/
def srResult (o : Bool) (s : State) (r : BitVec 32) : State :=
  let hi := BitVec.ofNat 16 (r.toNat / 2 ^ 16)
  let lo := BitVec.ofNat 16 r.toNat
  (s.setBank { s.bank with
    sr1 := if o then s.bank.sr1 ||| hi else hi, sr0 := if o then s.bank.sr0 ||| lo else lo }).stepped

/-! ### Moves (spec/44_move.md) -/

/-- `rd16` of the registers that are plain reads (R281). -/
def value (s : State) : Reg → Word
  | .dreg .ax0 => s.bank.ax0
  | .dreg .ax1 => s.bank.ax1
  | .dreg .mx0 => s.bank.mx0
  | .dreg .mx1 => s.bank.mx1
  | .dreg .ay0 => s.bank.ay0
  | .dreg .ay1 => s.bank.ay1
  | .dreg .my0 => s.bank.my0
  | .dreg .my1 => s.bank.my1
  | .dreg .si => s.bank.si
  | .dreg .ar => s.bank.ar
  | .dreg .mr0 => s.bank.mr0
  | .dreg .mr1 => s.bank.mr1
  | .dreg .sr0 => s.bank.sr0
  | .dreg .sr1 => s.bank.sr1
  | .dreg .mr2 => BitVec.ofInt 16 s.bank.mr2.toInt
  | .dreg .se => BitVec.ofInt 16 s.bank.se.toInt
  | .i n => BitVec.ofNat 16 (s.idx.get n).toNat
  | .m n => BitVec.ofInt 16 (s.mdf.get n).toInt
  | .l n => BitVec.ofNat 16 (s.len.get n).toNat
  | .astat => BitVec.ofNat 16 s.astat.toNat
  | .mstat => BitVec.ofNat 16 s.mstat.toNat
  | .sstat => BitVec.ofNat 16 ((if s.stk.pc = [] then 1 else 0) + (if s.stk.cntr = [] then 4 else 0)
      + (if s.stk.sts = [] then 16 else 0) + (if s.stk.loop = [] then 64 else 0))
  | .imask => s.imask
  | .icntl => BitVec.ofNat 16 s.icntl.toNat
  | .cntr => BitVec.ofNat 16 s.cntr.value.toNat
  | .sb => BitVec.ofInt 16 s.bank.sb.toInt
  | .px => BitVec.ofNat 16 s.px.toNat
  | .tx0 => s.serial.tx0
  | .tx1 => s.serial.tx1
  | .rx0 => 0
  | .rx1 => 0
  | .ifc => 0
  | .owrcntr => 0

/-- The registers whose read is a plain read: not RX0, RX1 (a free value), IFC, OWRCNTR (R281). -/
def plainSource : Reg → Bool
  | .rx0 | .rx1 | .ifc | .owrcntr => false
  | .dreg _ | .i _ | .m _ | .l _ | .astat | .mstat | .sstat | .imask | .icntl | .cntr | .sb | .px
  | .tx0 | .tx1 => true

/-- The registers whose write is a plain write: not SSTAT (refused), IFC, CNTR (R281, R291). -/
def plainDest : Reg → Bool
  | .sstat | .ifc | .cntr => false
  | .dreg _ | .i _ | .m _ | .l _ | .astat | .mstat | .imask | .icntl | .sb | .px | .rx0 | .rx1
  | .tx0 | .tx1 | .owrcntr => true

/-- The state after a plain write of `v` (R281, R291): the one field of the register, with the low bits
it has; MR1 fills MR2 with copies of its bit 15; TX0 and TX1 are output events. OWRCNTR is the model's
reading (log 18). -/
def written (v : Word) (s : State) : Reg → State
  | .dreg .ax0 => s.setBank { s.bank with ax0 := v }
  | .dreg .ax1 => s.setBank { s.bank with ax1 := v }
  | .dreg .mx0 => s.setBank { s.bank with mx0 := v }
  | .dreg .mx1 => s.setBank { s.bank with mx1 := v }
  | .dreg .ay0 => s.setBank { s.bank with ay0 := v }
  | .dreg .ay1 => s.setBank { s.bank with ay1 := v }
  | .dreg .my0 => s.setBank { s.bank with my0 := v }
  | .dreg .my1 => s.setBank { s.bank with my1 := v }
  | .dreg .si => s.setBank { s.bank with si := v }
  | .dreg .ar => s.setBank { s.bank with ar := v }
  | .dreg .mr0 => s.setBank { s.bank with mr0 := v }
  | .dreg .sr0 => s.setBank { s.bank with sr0 := v }
  | .dreg .sr1 => s.setBank { s.bank with sr1 := v }
  | .dreg .mr1 => s.setBank { s.bank with
      mr1 := v, mr2 := if 32768 ≤ v.toNat then BitVec.ofNat 8 255 else 0 }
  | .dreg .mr2 => s.setBank { s.bank with mr2 := BitVec.ofNat 8 v.toNat }
  | .dreg .se => s.setBank { s.bank with se := BitVec.ofNat 8 v.toNat }
  | .i n => s.setIdx (s.idx.set n (BitVec.ofNat 14 v.toNat))
  | .m n => s.setMdf (s.mdf.set n (BitVec.ofNat 14 v.toNat))
  | .l n => s.setLen (s.len.set n (BitVec.ofNat 14 v.toNat))
  | .astat => s.setAstat (BitVec.ofNat 8 v.toNat)
  | .mstat => s.setMstat (BitVec.ofNat 7 v.toNat)
  | .imask => s.setImask (BitVec.ofNat 16 (v.toNat % 2 ^ s.params.imaskWidth))
  | .icntl => s.setIcntl (BitVec.ofNat 5 v.toNat)
  | .sb => s.setBank { s.bank with sb := BitVec.ofNat 5 v.toNat }
  | .px => s.setPx (BitVec.ofNat 8 v.toNat)
  | .rx0 => s.setSerial { s.serial with rx0 := v }
  | .rx1 => s.setSerial { s.serial with rx1 := v }
  | .tx0 => (s.setSerial { s.serial with tx0 := v }).setOutputs (.tx false v :: s.outputs)
  | .tx1 => (s.setSerial { s.serial with tx1 := v }).setOutputs (.tx true v :: s.outputs)
  | .owrcntr => s.setCntr { value := BitVec.ofNat 14 v.toNat, loaded := true }
  | .sstat => s
  | .ifc => s
  | .cntr => s

/-- The DM word at `a` is there and is `v` (spec/20_memory.md R84). -/
def HasDm (s : State) (a : Addr) (v : Word) : Prop :=
  regionKind s.params.dmMap a.toNat = some .ram ∧ Memory.lookup s.dm a.toNat = some v

/-- The PM word at `a` is there and is `w` (spec/20_memory.md R84). -/
def HasPm (s : State) (a : Addr) (w : PmBits) : Prop :=
  regionKind s.params.pmMap a.toNat = some .ram ∧
    ∃ c, Memory.lookup s.pm a.toNat = some c ∧ cellBits c = w

/-- The DM address `a` is memory (spec/20_memory.md R85). -/
def RamDm (s : State) (a : Addr) : Prop := regionKind s.params.dmMap a.toNat = some .ram

/-- The PM address `a` is memory (spec/20_memory.md R85). -/
def RamPm (s : State) (a : Addr) : Prop := regionKind s.params.pmMap a.toNat = some .ram

/-- A MOVE reads `v` from `r` in `s` and leaves `u`: a plain read, or a free value from RX0 or RX1,
another one at each read (R281, spec/10_state.md R36). -/
def Reads (r : Reg) (v : Word) (s u : State) : Prop :=
  (plainSource r = true ∧ v = value s r ∧ u = s) ∨
    ((r = .rx0 ∨ r = .rx1) ∧ v = Config.rxSample s.draws ∧ u = s.setDraws (s.draws + 1))

/-- `i` is a MOVE of the value `v` into `d`, and `u` is the state after its read: from a register,
from DM, or the 14-bit constant sign-extended (R282, R283, R288). -/
def Moves (i : Instr) (d : Reg) (v : Word) (s u : State) : Prop :=
  (∃ r, i = .regReg d r ∧ Reads r v s u) ∨ (∃ a, i = .regDmAddr d a ∧ HasDm s a v ∧ u = s) ∨
    ∃ n : Addr, i = .regData d n ∧ v = BitVec.ofInt 16 n.toInt ∧ u = s

/-- `s` with the DM word at `a` replaced (spec/20_memory.md R85). -/
def storedDm (s : State) (a : Addr) (v : Word) : State := s.setDm (Memory.store s.dm a.toNat v)

/-- `s` with the PM word at `a` replaced, marked "written by the program" (spec/20_memory.md R85). -/
def storedPm (s : State) (a : Addr) (w : PmBits) : State :=
  s.setPm (Memory.store s.pm a.toNat (.word w true))

/-- A stack after a POP clause, where there is one (spec/46_misc.md R341). -/
def popped {α : Type} (b : Bool) (l : List α) : List α := if b then l.drop 1 else l

/-- The status stack after a PUSH or POP STS clause (spec/46_misc.md R342, R343). -/
def stsAfter : Option StsOp → State → List StsEntry
  | none, s => s.stk.sts
  | some .push, s => ⟨s.astat, s.mstat, s.imask⟩ :: s.stk.sts
  | some .pop, s => popped true s.stk.sts

/-- The 24 bits of a PM store: the register's 16 over PX (spec/20_memory.md R88). -/
def overPx (s : State) (v : Word) : PmBits := BitVec.ofNat 24 (v.toNat * 256 + s.px.toNat)

/-- The state after a PM read: bits 23..8 to the register, bits 7..0 to PX (spec/20_memory.md R88). -/
def fromPm (d : DReg) (w : PmBits) (s : State) : State :=
  written (BitVec.ofNat 16 (w.toNat / 256)) (s.setPx (BitVec.ofNat 8 w.toNat)) (.dreg d)

/-- The data register that the DM clause of a two-read form loads (spec/40_multifunction.md R152). -/
def xReg : XDual → DReg
  | .ax0 => .ax0
  | .ax1 => .ax1
  | .mx0 => .mx0
  | .mx1 => .mx1

/-- The data register that its PM clause loads (spec/40_multifunction.md R152). -/
def yReg : YDual → DReg
  | .ay0 => .ay0
  | .ay1 => .ay1
  | .my0 => .my0
  | .my1 => .my1

/-! ### Instruction groups -/

/-- The instruction whose whole effect is an ALU or MAC clause (spec/40_multifunction.md R152). -/
def compInstr : Comp → Instr
  | .alu f z => f.instr z .always
  | .mac f z => f.instr z .always

/-- The condition of an instruction that takes `[IF condition]` (spec/30_encoding.md R125). -/
def condOf : Instr → Option Cond
  | .addXY _ _ _ c | .addXC _ _ c | .addXYC _ _ _ c | .addXK _ _ _ c | .addXKC _ _ _ c
  | .addXNK _ _ _ c | .addXNKC _ _ _ c | .subXY _ _ _ c | .subXYC _ _ _ c | .subXC _ _ c
  | .subXK _ _ _ c | .subXKC _ _ _ c | .subXNK _ _ _ c | .subXNKC _ _ _ c | .subYX _ _ _ c
  | .subYXC _ _ _ c | .negXC _ _ c | .subKX _ _ _ c | .subKXC _ _ _ c | .subNKX _ _ _ c
  | .subNKXC _ _ _ c | .andXY _ _ _ c | .andXK _ _ _ c | .andXNK _ _ _ c | .orXY _ _ _ c
  | .orXK _ _ _ c | .orXNK _ _ _ c | .xorXY _ _ _ c | .xorXK _ _ _ c | .xorXNK _ _ _ c
  | .tstbit _ _ _ c | .setbit _ _ _ c | .clrbit _ _ _ c | .tglbit _ _ _ c | .passX _ _ c
  | .passY _ _ c | .pass0 _ c | .pass1 _ c | .passM1 _ c | .passK _ _ c | .passNK _ _ c
  | .negX _ _ c | .negY _ _ c | .notX _ _ c | .notY _ _ c | .absX _ _ c | .incY _ _ c
  | .decY _ _ c => some c
  | .mulRnd _ _ _ c | .mulSs _ _ _ c | .mulSu _ _ _ c | .mulUs _ _ _ c | .mulUu _ _ _ c
  | .macRnd _ _ _ c | .macSs _ _ _ c | .macSu _ _ _ c | .macUs _ _ _ c | .macUu _ _ _ c
  | .msubRnd _ _ _ c | .msubSs _ _ _ c | .msubSu _ _ _ c | .msubUs _ _ _ c | .msubUu _ _ _ c
  | .square _ _ _ _ c | .mrZero _ c | .mrMr _ c | .mrMrRnd _ c => some c
  | .ashift _ _ _ c | .lshift _ _ _ c | .norm _ _ _ c | .expHi _ c | .expHix _ c | .expLo _ c
  | .expadj _ c => some c
  | .jumpAddr _ c | .jumpInd _ c | .callAddr _ c | .callInd _ c | .rts c | .rti c => some c
  | .flagOut _ c => some c
  | _ => none

/-- The forms that exist only where `has_alu_constants` (spec/30_encoding.md R121,
spec/41_alu.md R182, R186, R194). -/
def constForm : Instr → Bool
  | .addXK _ _ _ _ | .addXKC _ _ _ _ | .addXNK _ _ _ _ | .addXNKC _ _ _ _ | .subXK _ _ _ _
  | .subXKC _ _ _ _ | .subXNK _ _ _ _ | .subXNKC _ _ _ _ | .subKX _ _ _ _ | .subKXC _ _ _ _
  | .subNKX _ _ _ _ | .subNKXC _ _ _ _ | .andXK _ _ _ _ | .andXNK _ _ _ _ | .orXK _ _ _ _
  | .orXNK _ _ _ _ | .xorXK _ _ _ _ | .xorXNK _ _ _ _ | .tstbit _ _ _ _ | .setbit _ _ _ _
  | .clrbit _ _ _ _ | .tglbit _ _ _ _ | .pass0 _ _ | .pass1 _ _ | .passM1 _ _ | .passK _ _ _
  | .passNK _ _ _ | .noneAlu _ => true
  | _ => false

/-- The constant operand of an ALU form, but for the 0 of PASS 0, which R186 always admits
(spec/30_encoding.md R121). -/
def constantOf : Instr → Option Word
  | .addXK _ _ k _ | .addXKC _ _ k _ | .subXK _ _ k _ | .subXKC _ _ k _ | .subKX _ _ k _
  | .subKXC _ _ k _ | .andXK _ _ k _ | .orXK _ _ k _ | .xorXK _ _ k _ | .passK _ k _ =>
    some (constVal k)
  | .addXNK _ _ k _ | .addXNKC _ _ k _ | .subXNK _ _ k _ | .subXNKC _ _ k _ | .subNKX _ _ k _
  | .subNKXC _ _ k _ | .andXNK _ _ k _ | .orXNK _ _ k _ | .xorXNK _ _ k _ | .passNK _ k _ =>
    some (notPow2 k)
  | .pass1 _ _ => some 1
  | .passM1 _ _ => some (BitVec.ofInt 16 (-1))
  | _ => none

/-- The form exists on this member, and its constant is one of `alu_constants`
(spec/00_scope.md R6, spec/30_encoding.md R121, U13). -/
def Exists (i : Instr) (s : State) : Prop :=
  (constForm i = true → s.params.hasAluConstants = true) ∧
    (∀ v, constantOf i = some v → v ∈ s.params.aluConstants) ∧
    (∀ o c, i = .flagOut o c →
      (o.fl0 = .keep ∧ o.fl1 = .keep ∧ o.fl2 = .keep) ∨ s.params.hasFlagPins = true) ∧
    (∀ n, i = .idleN n → s.params.hasIdleN = true) ∧
    (i = .enaInts ∨ i = .disInts → s.params.hasIntsInstr = true)

/-- The program flow instructions that set `pc` themselves (spec/45_program_flow.md R308). -/
def isFlow : Instr → Bool
  | .jumpAddr _ _ | .jumpInd _ _ | .jumpFlag _ _ | .callAddr _ _ | .callInd _ _ | .callFlag _ _
  | .rts _ | .rti _ | .doUntil _ _ | .idle | .idleN _ => true
  | _ => false

/-- The instructions that pop the PC or the loop stack by a clause (spec/46_misc.md R345, R346). -/
def popsPcOrLoop : Instr → Bool
  | .popPc | .popLoop => true
  | .stackControl o => o.pc || o.loop
  | _ => false

/-- The instruction replaces ASTAT whole: a MOVE to ASTAT, POP STS, RTI (spec/44_move.md R291 (c),
spec/46_misc.md R343, spec/45_program_flow.md R306). -/
def replacesAstat : Instr → Bool
  | .regReg .astat _ | .regDmAddr .astat _ | .regData .astat _ | .popSts | .rti _ => true
  | .stackControl o => o.sts == some .pop
  | _ => false

/-- The ALU expression is ABS (spec/41_alu.md R189). -/
def isAbs : AluFn → Bool
  | .absX _ => true
  | _ => false

/-- The instruction has an ABS in it (spec/41_alu.md R189, R194, spec/40_multifunction.md R159). -/
def hasAbs : Instr → Bool
  | .absX _ _ _ => true
  | .noneAlu f => isAbs f
  | .compDmPm (.alu f _) _ _ _ _ | .compDm (.alu f _) _ _ | .compPm (.alu f _) _ _
  | .dmComp _ _ (.alu f _) | .pmComp _ _ (.alu f _) | .compMove (.alu f _) _ _ => isAbs f
  | _ => false

/-- The Shifter computation is EXP (spec/43_shifter.md R256). -/
def isExp : ShiftFn → Bool
  | .exp _ _ => true
  | _ => false

/-- The instruction has an EXP in it (spec/43_shifter.md R256, spec/40_multifunction.md R159). -/
def hasExp : Instr → Bool
  | .expHi _ _ | .expHix _ _ | .expLo _ _ => true
  | .shiftDm f _ _ | .shiftPm f _ _ | .dmShift _ _ f | .pmShift _ _ f | .shiftMove f _ _ => isExp f
  | _ => false

/-- The instruction names a register that MOVE reads or writes: the mode and enable of interrupts,
`imask`, `icntl`, `pending` (spec/44_move.md R291 (d)). -/
def writesReg (d : Reg) : Instr → Bool
  | .regReg e _ | .regDmAddr e _ | .regData e _ => e == d
  | _ => false

/-- The annex has a word for this instruction: it holds no squaring form and no constant but 2^k, NOT 2^k,
0, 1 and -1, and is not NONE =, ENA INTS or DIS INTS (spec/30_encoding.md R129; log 10). -/
def hasWord : Instr → Bool
  | .noneAlu _ | .enaInts | .disInts | .square _ _ _ _ _ => false
  | .addXK _ _ (.other _) _ | .addXKC _ _ (.other _) _ | .subXK _ _ (.other _) _
  | .subXKC _ _ (.other _) _ | .subKX _ _ (.other _) _ | .subKXC _ _ (.other _) _
  | .andXK _ _ (.other _) _ | .orXK _ _ (.other _) _ | .xorXK _ _ (.other _) _
  | .passK _ (.other _) _ => false
  | .compDmPm (.mac (.square _ _ _) _) _ _ _ _ | .compDm (.mac (.square _ _ _) _) _ _
  | .compPm (.mac (.square _ _ _) _) _ _ | .dmComp _ _ (.mac (.square _ _ _) _)
  | .pmComp _ _ (.mac (.square _ _ _) _) | .compMove (.mac (.square _ _ _) _) _ _ => false
  | _ => true

/-- A bit operation, whose word is that of a constant form (spec/opcode_table.json; log 9). -/
def isBitOp : Instr → Bool
  | .tstbit _ _ _ _ | .setbit _ _ _ _ | .clrbit _ _ _ _ | .tglbit _ _ _ _ => true
  | _ => false

/-- The next turn is the core's own, and `u` is `s` with that turn taken from the list of turns
(spec/00_scope.md R12; log 14). -/
def CoreTurn (s u : State) : Prop :=
  (s.env = [] ∧ u = s) ∨ ∃ rest, s.env = none :: rest ∧ u = s.setEnv rest

/-- The source takes its requests by edge: always, never, or where ICNTL marks it edge-sensitive
(spec/10_state.md R30, spec/60_exceptions.md R383). Which source is of which kind is the launch
parameter `int_layout`; those of State.reset are log 6. -/
def edgeSensitive (s : State) (src : IntSource) : Bool :=
  match src.sense with
  | .edge => true
  | .level => false
  | .icntl k => s.icntl.getLsbD k.val

/-- A source is ready: pending and unmasked (spec/60_exceptions.md R383). -/
def Ready (s : State) (src : IntSource) : Prop :=
  s.pending.getLsbD src.bit.val = true ∧ s.imask.getLsbD src.bit.val = true

/-- No two sources share a bit (spec/60_exceptions.md R382). -/
def DistinctBits (l : List IntSource) : Prop := l.Pairwise (fun x y => x.bit ≠ y.bit)

end Sys2Proof.Claims

open Sys2Proof Sys2Proof.Machine Sys2Proof.Claims

/-! ### Reset, memory, fetch -/

/-- R43, R420: what the spec itself tells of reset: the modes, IMASK, the stacks, pending, idle; SSTAT
then reads 0x55. -/
def Obligations.ResetAsSpecSays : Prop :=
  State.reset.mstat = 0 ∧ State.reset.imask = 0 ∧ State.reset.stk = ⟨[], [], [], []⟩ ∧
    State.reset.pending = 0 ∧ State.reset.idle = false ∧ sstat State.reset = 0x55#8

/-- The invariant of `StepKeepsInv` holds after reset. -/
def Obligations.ResetHasInv : Prop := Inv State.reset

/-- R84, R85, R95, R100: a read after a write gives the value written; a PM word written is marked as
the program's; every other address of either space reads as before. -/
def Obligations.ReadAfterWrite : Prop :=
  (∀ (a : Addr) (v : Word) (s t : State), writeDm a v s = .ok t →
    readDm a t = .ok v ∧ (∀ b, b ≠ a → readDm b t = readDm b s) ∧ ∀ b, readCell b t = readCell b s) ∧
  ∀ (a : Addr) (w : PmBits) (s t : State), writePm a w s = .ok t →
    readPm a t = .ok w ∧ readCell a t = .ok (.word w true) ∧
      (∀ b, b ≠ a → readCell b t = readCell b s) ∧ ∀ b, readDm b t = readDm b s

/-- R84, R85, R40, R29, R30: an access that the launch map does not admit has no step, a read of a
word that holds no value faults, a control register is refused; so are a MOVE to SSTAT and a MOVE
from IFC. -/
def Obligations.MovesThatStop : Prop :=
  ∀ (i : Instr) (v : Word) (d : Reg) (r : DReg) (a : Addr) (s u : State),
    (regionKind s.params.dmMap a.toNat = none →
      exec (.regDmAddr d a) s = .fault (.unadmittedRead .dm a) ∧
        exec (.dmAddrReg a (.dreg r)) s = .fault (.unadmittedWrite .dm a)) ∧
    (regionKind s.params.dmMap a.toNat = some .control →
      exec (.regDmAddr d a) s = .refused (.memoryMappedRegister a) ∧
        exec (.dmAddrReg a (.dreg r)) s = .refused (.memoryMappedRegister a)) ∧
    (RamDm s a → Memory.lookup s.dm a.toNat = none →
      exec (.regDmAddr d a) s = .fault (.unwritten .dm a)) ∧
    (Moves i .sstat v s u → exec i s = .refused .writeToSstat) ∧
    exec (.regReg d .ifc) s = .refused .readOfIfc ∧
    exec (.dmAddrReg a .ifc) s = .refused .readOfIfc

/-- R110, R300, R385: with a core turn next, nothing to deliver and the core not idle, the word at
`pc` that the program has not written runs as the instruction it decodes to, and a launched
statement of the grammar as itself; `exec` sets the next pc. -/
def Obligations.StepRunsDecoded : Prop :=
  ∀ (i : Instr) (s u : State), deliverable s = none → s.idle = false →
    regionKind s.params.pmMap s.pc.toNat = some .ram →
    (∃ w, Memory.lookup s.pm s.pc.toNat = some (.word w false) ∧ decode w = .ok i) ∨
      (Memory.lookup s.pm s.pc.toNat = some (.stmt i) ∧ i.inGrammar = true) →
    CoreTurn s u → step s = exec i u

/-- R100, R127: the fetch of a word the program has written is refused, and so is a word that is no
instruction and a launched statement that the grammar does not derive. -/
def Obligations.FetchRefusals : Prop :=
  ∀ (w : PmBits) (i : Instr) (s : State), s.env = [] → deliverable s = none → s.idle = false →
    regionKind s.params.pmMap s.pc.toNat = some .ram →
    (Memory.lookup s.pm s.pc.toNat = some (.word w true) →
      step s = .refused (.fetchOfWrittenWord s.pc)) ∧
    (∀ e, Memory.lookup s.pm s.pc.toNat = some (.word w false) → decode w = .error e →
      step s = .refused (.unknownWord e)) ∧
    (Memory.lookup s.pm s.pc.toNat = some (.stmt i) → i.inGrammar = false →
      step s = .refused .notAnInstruction)

/-! ### Encoding -/

/-- The words of the programs in spec/95_test_vectors.md, written out from the annex (R129, R130),
decode to their instructions. PRESUMED (log 8). -/
def Obligations.SpecWordsDecode : Prop :=
  decode 0x224008#24 = .ok (.addXYC .ar .ax0 .ay0 .ac) ∧
    decode 0x21600D#24 = .ok (.macUu .mr .mx0 .my0 .notMv) ∧
    decode 0x0E480E#24 = .ok (.norm true .si .hi .notCe) ∧
    decode 0xC00000#24 = .ok (.dualRead .ax0 ⟨0, 0⟩ .ay0 ⟨4, 4⟩) ∧
    decode 0x500040#24 = .ok (.dregPm .ay0 ⟨4, 4⟩) ∧
    decode 0x90300C#24 = .ok (.dmAddrReg 0x0300 (.dreg .mr1)) ∧
    decode 0x3C0035#24 = .ok (.regData .cntr 3) ∧
    decode 0x1400AE#24 = .ok (.doUntil 10 .ce) ∧
    decode 0x0C0C00#24 = .ok .enaArSat ∧ decode 0x000000#24 = .ok .nop

/-- Decode and encode agree (R129, R130): every well-formed instruction that the annex gives a word
has one, with every operand at every value, and that 24-bit word decodes to the instruction, or for
a bit operation to the constant form that shares its word. -/
def Obligations.DecodeEncode : Prop :=
  ∀ i : Instr, i.wellFormed = true →
    (hasWord i = true → ∃ w, encodeNat i = some w) ∧
    ∀ w, encodeNat i = some w → w < 2 ^ 24 ∧ decode (BitVec.ofNat 24 w) = .ok i.canonical ∧
      (isBitOp i = false → i.canonical = i)

/-- What a word decodes to has its operands in the classes of R114 to R123 and R131. The encodings are
PRESUMED (log 8). Some words stand for terms that R113 does not derive: OWRCNTR (PRESUMED, log 18), a
mode control or flag out word that names nothing (DESIGN CHOICE, log 22). -/
def Obligations.DecodeWellFormed : Prop :=
  ∀ (w : PmBits) (i : Instr), decode w = .ok i → i.wellFormed = true

/-! ### Operands, conditions, loops -/

/-- R115, R171, R221, R251: the operands of the computation units; MR2 is read sign-extended, every
other register whole, AF and MF as feedback operands; all from the register set SEC_REG selects (R39).
R39: what is written to that set is read back from it, and it replaces that set alone. -/
def Obligations.OperandValues : Prop :=
  ∀ (s : State) (b : Bank),
    (s.mode .secReg = false → s.bank = s.primary ∧ s.setBank b = { s with primary := b }) ∧
    (s.mode .secReg = true → s.bank = s.secondary ∧ s.setBank b = { s with secondary := b }) ∧
    (s.setBank b).bank = b ∧
    [xAlu .ax0 s, xAlu .ax1 s, xAlu .ar s, xAlu .mr0 s, xAlu .mr1 s, xAlu .sr0 s, xAlu .sr1 s] =
      [s.bank.ax0, s.bank.ax1, s.bank.ar, s.bank.mr0, s.bank.mr1, s.bank.sr0, s.bank.sr1] ∧
    [yAlu .ay0 s, yAlu .ay1 s, yAlu .af s] = [s.bank.ay0, s.bank.ay1, s.bank.af] ∧
    [xMac .mx0 s, xMac .mx1 s, xMac .ar s, xMac .mr0 s, xMac .mr1 s, xMac .sr0 s, xMac .sr1 s] =
      [s.bank.mx0, s.bank.mx1, s.bank.ar, s.bank.mr0, s.bank.mr1, s.bank.sr0, s.bank.sr1] ∧
    [yMac .my0 s, yMac .my1 s, yMac .mf s] = [s.bank.my0, s.bank.my1, s.bank.mf] ∧
    [xShift .si s, xShift .sr1 s, xShift .sr0 s, xShift .ar s, xShift .mr0 s, xShift .mr1 s] =
      [s.bank.si, s.bank.sr1, s.bank.sr0, s.bank.ar, s.bank.mr0, s.bank.mr1] ∧
    (xAlu .mr2 s).toInt = s.bank.mr2.toInt ∧ (xMac .mr2 s).toInt = s.bank.mr2.toInt ∧
    (xShift .mr2 s).toInt = s.bank.mr2.toInt

/-- R124: the truth of every IF condition but NOT CE, whose evaluation changes nothing; each pair is
complementary; FLAG_IN and NOT FLAG_IN, of JUMP and CALL alone, are the last sample of the FI pin, which
the model draws at each test (log 13). -/
def Obligations.ConditionTable : Prop :=
  ∀ s : State,
    (∀ c, c ≠ .notCe → evalCond c s = .ok (truth s.astat c, s)) ∧
    (∀ x ∈ [(Cond.eq, Cond.ne), (.lt, .ge), (.le, .gt), (.ac, .notAc), (.av, .notAv), (.mv, .notMv),
        (.neg, .pos)], truth s.astat x.2 = !truth s.astat x.1) ∧
    ∀ (n : Bool) (a : Addr), Straight s → s.stk.pc.length < s.params.pcDepth →
      ∃ t u, exec (.jumpFlag n a) s = .next t ∧ exec (.callFlag n a) s = .next u ∧
        t.pc = (if t.fiSample = !n then a else s.pc + 1) ∧
        u.pc = (if u.fiSample = !n then a else s.pc + 1)

/-- R311: NOT CE counts. With CNTR = N > 1 it is true and leaves N - 1; with 1 it is false and the
saved count comes back, or CNTR holds no value; with 0 it is refused. That CNTR is tested as it stands
also where it holds no value is the model's choice (log 11). -/
def Obligations.CounterCondition : Prop :=
  ∀ s : State,
    (1 < s.cntr.value.toNat → evalCond .notCe s = .ok (true, s.setCntr
      { s.cntr with value := BitVec.ofNat 14 (s.cntr.value.toNat - 1) })) ∧
    (∀ a rest, s.cntr.value.toNat = 1 → s.stk.cntr = a :: rest →
      evalCond .notCe s = .ok (false,
        (s.setStk { s.stk with cntr := rest }).setCntr { value := a, loaded := true })) ∧
    (s.cntr.value.toNat = 1 → s.stk.cntr = [] →
      ∃ t, evalCond .notCe s = .ok (false, t) ∧ t.cntr.loaded = false ∧
        (t.setCntr s.cntr).setDraws s.draws = s) ∧
    (s.cntr.value.toNat = 0 → evalCond .notCe s = .error (.refused .counterTestZero))

/-- R125: with a false condition an instruction is a NOP: nothing changes but the pc (and what the
evaluation of NOT CE changed). -/
def Obligations.FalseConditionIsNop : Prop :=
  ∀ (i : Instr) (c : Cond) (s s1 : State), condOf i = some c → Exists i s →
    evalCond c s = .ok (false, s1) → Straight s → exec i s = .next s1.stepped

/-- R308: the loop-end check after an instruction that neither sets `pc` itself nor pops the PC or the
loop stack. `u` is what the instruction leaves where the loop ends elsewhere. With a termination that
is not CE, tested on ASTAT as the instruction left it, the loop is left with its entries popped where
it holds, and else goes back to its first instruction. With CE (R311) it goes back and counts down
while the count is above 1; at 1 it is left, and the enclosing loop's count comes back, or CNTR holds
no value (log 11); at 0 it is refused. -/
def Obligations.LoopEndCheck : Prop :=
  ∀ (i : Instr) (s u : State) (t : Term) (rest : List LoopEntry) (a : Addr) (pcs : List Addr),
    isFlow i = false → popsPcOrLoop i = false → s.pc ≠ 0x3FFF#14 →
    s.stk.loop = ⟨s.pc, t⟩ :: rest → s.stk.pc = a :: pcs →
    exec i (s.setStk { s.stk with loop := ⟨s.pc + 1, t⟩ :: rest }) = .next u →
    let round := u.setStk { u.stk with loop := s.stk.loop }
    let out := u.setStk { u.stk with pc := pcs, loop := rest }
    (t ≠ .ce → exec i s = .next (if termTruth u.astat t then out else round.setPc a)) ∧
    (t = .ce → 1 < u.cntr.value.toNat → exec i s = .next ((round.setCntr
      { u.cntr with value := BitVec.ofNat 14 (u.cntr.value.toNat - 1) }).setPc a)) ∧
    (∀ n saved, t = .ce → u.cntr.value.toNat = 1 → u.stk.cntr = n :: saved →
      exec i s = .next ((out.setStk { out.stk with cntr := saved }).setCntr ⟨n, true⟩)) ∧
    (t = .ce → u.cntr.value.toNat = 1 → u.stk.cntr = [] →
      ∃ w, exec i s = .next w ∧ w.cntr.loaded = false ∧
        (w.setCntr u.cntr).setDraws u.draws = out) ∧
    (t = .ce → u.cntr.value.toNat = 0 → exec i s = .refused .counterTestZero)

/-- R300, R308, R25: an instruction that does not assign `pc` itself never runs at 0x3FFF; it goes to
`pc + 1`, or at a loop's end to `pc + 1` or the address on top of the PC stack. -/
def Obligations.SequentialPc : Prop :=
  ∀ (i : Instr) (s t : State), isFlow i = false → popsPcOrLoop i = false → exec i s = .next t →
    s.pc ≠ 0x3FFF#14 ∧ (¬ AtLoopEnd s → t.pc = s.pc + 1) ∧
      (AtLoopEnd s → t.pc = s.pc + 1 ∨ ∃ rest, s.stk.pc = t.pc :: rest)

/-! ### ALU -/

/-- R176: the seven forms of ADD. -/
def Obligations.AddForms : Prop :=
  ∀ (z : AluDest) (x : XAlu) (y : YAlu) (k : Constant) (n : Bit) (c : Cond) (s s1 : State),
    When c s s1 →
    exec (.addXY z x y c) s = .next (sumResult z s1 (xAlu x s1) (yAlu y s1) false) ∧
    exec (.addXC z x c) s = .next (sumResult z s1 (xAlu x s1) 0 (carryIn s1)) ∧
    exec (.addXYC z x y c) s = .next (sumResult z s1 (xAlu x s1) (yAlu y s1) (carryIn s1)) ∧
    (HasConst s (constVal k) →
      exec (.addXK z x k c) s = .next (sumResult z s1 (xAlu x s1) (constVal k) false) ∧
      exec (.addXKC z x k c) s = .next (sumResult z s1 (xAlu x s1) (constVal k) (carryIn s1))) ∧
    (HasConst s (notPow2 n) →
      exec (.addXNK z x n c) s = .next (sumResult z s1 (xAlu x s1) (notPow2 n) false) ∧
      exec (.addXNKC z x n c) s = .next (sumResult z s1 (xAlu x s1) (notPow2 n) (carryIn s1)))

/-- R177, R178: the fourteen forms of SUBTRACT X - Y and Y - X; a borrow is a clear AC. -/
def Obligations.SubtractForms : Prop :=
  ∀ (z : AluDest) (x : XAlu) (y : YAlu) (k : Constant) (n : Bit) (c : Cond) (s s1 : State),
    When c s s1 →
    let u := xAlu x s1
    let v := yAlu y s1
    let minus := fun p q => Host.Outcome.next (φ := Fault) (ρ := Refusal) (diffResult z s1 p q false)
    let borrow := fun p q =>
      Host.Outcome.next (φ := Fault) (ρ := Refusal) (diffResult z s1 p q (!carryIn s1))
    exec (.subXY z x y c) s = minus u v ∧ exec (.subXYC z x y c) s = borrow u v ∧
    exec (.subXC z x c) s = borrow u 0 ∧
    exec (.subYX z x y c) s = minus v u ∧ exec (.subYXC z x y c) s = borrow v u ∧
    exec (.negXC z x c) s = borrow 0 u ∧
    (HasConst s (constVal k) →
      exec (.subXK z x k c) s = minus u (constVal k) ∧ exec (.subXKC z x k c) s = borrow u (constVal k) ∧
      exec (.subKX z x k c) s = minus (constVal k) u ∧ exec (.subKXC z x k c) s = borrow (constVal k) u) ∧
    (HasConst s (notPow2 n) →
      exec (.subXNK z x n c) s = minus u (notPow2 n) ∧
      exec (.subXNKC z x n c) s = borrow u (notPow2 n) ∧
      exec (.subNKX z x n c) s = minus (notPow2 n) u ∧
      exec (.subNKXC z x n c) s = borrow (notPow2 n) u)

/-- R179, R180, R181: the nine forms of AND, OR and XOR. -/
def Obligations.LogicForms : Prop :=
  ∀ (z : AluDest) (x : XAlu) (y : YAlu) (k : Constant) (n : Bit) (c : Cond) (s s1 : State),
    When c s s1 →
    exec (.andXY z x y c) s = .next (logicResult z s1 (xAlu x s1 &&& yAlu y s1)) ∧
    exec (.orXY z x y c) s = .next (logicResult z s1 (xAlu x s1 ||| yAlu y s1)) ∧
    exec (.xorXY z x y c) s = .next (logicResult z s1 (xAlu x s1 ^^^ yAlu y s1)) ∧
    (HasConst s (constVal k) →
      exec (.andXK z x k c) s = .next (logicResult z s1 (xAlu x s1 &&& constVal k)) ∧
      exec (.orXK z x k c) s = .next (logicResult z s1 (xAlu x s1 ||| constVal k)) ∧
      exec (.xorXK z x k c) s = .next (logicResult z s1 (xAlu x s1 ^^^ constVal k))) ∧
    (HasConst s (notPow2 n) →
      exec (.andXNK z x n c) s = .next (logicResult z s1 (xAlu x s1 &&& notPow2 n)) ∧
      exec (.orXNK z x n c) s = .next (logicResult z s1 (xAlu x s1 ||| notPow2 n)) ∧
      exec (.xorXNK z x n c) s = .next (logicResult z s1 (xAlu x s1 ^^^ notPow2 n)))

/-- R182 to R185: TSTBIT keeps the one bit, SETBIT, CLRBIT and TGLBIT write the one bit. -/
def Obligations.BitOperations : Prop :=
  ∀ (z : AluDest) (x : XAlu) (n : Bit) (c : Cond) (s s1 : State), When c s s1 →
    s.params.hasAluConstants = true →
    ∃ tst set clr tgl : Word,
      (∀ j, j < 16 →
        tst.getLsbD j = (if j = n.val then (xAlu x s1).getLsbD j else false) ∧
        set.getLsbD j = (if j = n.val then true else (xAlu x s1).getLsbD j) ∧
        clr.getLsbD j = (if j = n.val then false else (xAlu x s1).getLsbD j) ∧
        tgl.getLsbD j = (if j = n.val then !(xAlu x s1).getLsbD j else (xAlu x s1).getLsbD j)) ∧
      exec (.tstbit z x n c) s = .next (logicResult z s1 tst) ∧
      exec (.setbit z x n c) s = .next (logicResult z s1 set) ∧
      exec (.clrbit z x n c) s = .next (logicResult z s1 clr) ∧
      exec (.tglbit z x n c) s = .next (logicResult z s1 tgl)

/-- R186, R188: PASS and NOT. PASS of a constant is of one in `alu_constants`, or of 0, on a member with
the constant forms. That -1 is a constant for PASS at all is the row of spec/opcode_table.json, and that
PASS 1 and PASS -1 have the flags of class LOGIC is log 20 (DEDUCED). -/
def Obligations.PassAndNot : Prop :=
  ∀ (z : AluDest) (x : XAlu) (y : YAlu) (k : Constant) (n : Bit) (c : Cond) (s s1 : State),
    When c s s1 →
    exec (.passX z x c) s = .next (logicResult z s1 (xAlu x s1)) ∧
    exec (.passY z y c) s = .next (logicResult z s1 (yAlu y s1)) ∧
    exec (.notX z x c) s =
      .next (logicResult z s1 (BitVec.ofNat 16 (65535 - (xAlu x s1).toNat))) ∧
    exec (.notY z y c) s =
      .next (logicResult z s1 (BitVec.ofNat 16 (65535 - (yAlu y s1).toNat))) ∧
    (s.params.hasAluConstants = true → exec (.pass0 z c) s = .next (logicResult z s1 0)) ∧
    (HasConst s 1 → exec (.pass1 z c) s = .next (logicResult z s1 1)) ∧
    (HasConst s (BitVec.ofInt 16 (-1)) →
      exec (.passM1 z c) s = .next (logicResult z s1 (BitVec.ofInt 16 (-1)))) ∧
    (HasConst s (constVal k) → exec (.passK z k c) s = .next (logicResult z s1 (constVal k))) ∧
    (HasConst s (notPow2 n) → exec (.passNK z n c) s = .next (logicResult z s1 (notPow2 n)))

/-- R187, R190, R191: NEGATE, INCREMENT and DECREMENT. -/
def Obligations.NegIncDec : Prop :=
  ∀ (z : AluDest) (x : XAlu) (y : YAlu) (c : Cond) (s s1 : State), When c s s1 →
    exec (.negX z x c) s = .next (diffResult z s1 0 (xAlu x s1) false) ∧
    exec (.negY z y c) s = .next (diffResult z s1 0 (yAlu y s1) false) ∧
    exec (.incY z y c) s = .next (sumResult z s1 (yAlu y s1) 1 false) ∧
    exec (.decY z y c) s = .next (diffResult z s1 (yAlu y s1) 1 false)

/-- R189: ABS, which overflows on 0x8000 alone, and writes AS with the sign of the operand. -/
def Obligations.AbsResult : Prop :=
  ∀ (z : AluDest) (x : XAlu) (c : Cond) (s s1 : State), When c s s1 →
    exec (.absX z x c) s = .next (
      let v := xAlu x s1
      let t := aluResult z s1 (BitVec.ofNat 16 v.toInt.natAbs) (decide (v.toInt = -32768)) false
      t.setAstat (t.astat.extractLsb' 5 3 ++ BitVec.ofBool (decide (v.toInt < 0)) ++
        t.astat.extractLsb' 0 4))

/-- R192, R193: DIVS and DIVQ write AQ, AF and AY0 with what the open functions give, and nothing
else. -/
def Obligations.DivideSteps : Prop :=
  ∀ (x : XAlu) (y : YAlu) (s : State), Straight s →
    let after := fun (r : Bool × Word × Word) =>
      ((s.setBank { s.bank with af := r.2.1, ay0 := r.2.2 }).setAstat
        (s.astat.extractLsb' 6 2 ++ BitVec.ofBool r.1 ++ s.astat.extractLsb' 0 5)).stepped
    exec (.divs y x) s = .next (after (Config.divS (xAlu x s) (yAlu y s) s.bank.ay0)) ∧
      exec (.divq x) s = .next (after
        (Config.divQ (xAlu x s) s.bank.af s.bank.ay0 (s.astat.getLsbD 5)))

/-- R194: NONE = sets the flags exactly as the same expression with destination AR, and writes
neither AR nor AF. -/
def Obligations.NoneKeepsRegisters : Prop :=
  ∀ (f : AluFn) (s : State), s.params.hasAluConstants = true → Straight s →
    ∃ t, exec (f.instr .ar .always) s = .next t ∧
      exec (.noneAlu f) s = .next ((s.setAstat t.astat).stepped)

/-- R189, R256, R27: AS changes only by ABS, and SS only by EXP, or where ASTAT is replaced whole. -/
def Obligations.WritersOfAsAndSs : Prop :=
  ∀ (i : Instr) (s t : State), exec i s = .next t → replacesAstat i = false →
    (hasAbs i = false → t.astat.getLsbD 4 = s.astat.getLsbD 4) ∧
    (hasExp i = false → t.astat.getLsbD 7 = s.astat.getLsbD 7)

/-! ### MAC -/

/-- R224, R225, R226: MULTIPLY, MULTIPLY/ACCUMULATE and MULTIPLY/SUBTRACT with (SS), (SU), (US),
(UU), modulo 2^40; the first letter is the X operand's. -/
def Obligations.ProductForms : Prop :=
  ∀ (z : MacDest) (x : XMac) (y : YMac) (c : Cond) (s s1 : State), When c s s1 →
    let u := xMac x s1
    let v := yMac y s1
    let r := fun n => Host.Outcome.next (φ := Fault) (ρ := Refusal) (macResult z s1 (acc n))
    let ss := placed s1 (u.toInt * v.toInt)
    let su := placed s1 (u.toInt * v.toNat)
    let us := placed s1 (u.toNat * v.toInt)
    let uu := placed s1 (u.toNat * v.toNat)
    exec (.mulSs z x y c) s = r ss ∧ exec (.mulSu z x y c) s = r su ∧
    exec (.mulUs z x y c) s = r us ∧ exec (.mulUu z x y c) s = r uu ∧
    exec (.macSs z x y c) s = r (mrInt s1 + ss) ∧ exec (.macSu z x y c) s = r (mrInt s1 + su) ∧
    exec (.macUs z x y c) s = r (mrInt s1 + us) ∧ exec (.macUu z x y c) s = r (mrInt s1 + uu) ∧
    exec (.msubSs z x y c) s = r (mrInt s1 - ss) ∧ exec (.msubSu z x y c) s = r (mrInt s1 - su) ∧
    exec (.msubUs z x y c) s = r (mrInt s1 - us) ∧ exec (.msubUu z x y c) s = r (mrInt s1 - uu)

/-- R230, R222: (RND) multiplies as (SS) and applies the open rounding to the adder's result. -/
def Obligations.RoundingForms : Prop :=
  ∀ (z : MacDest) (x : XMac) (y : YMac) (c : Cond) (s s1 : State), When c s s1 →
    let p := placed s1 ((xMac x s1).toInt * (yMac y s1).toInt)
    let r := fun n => macResult z s1 (Config.macRound (acc n))
    exec (.mulRnd z x y c) s = .next (r p) ∧
    exec (.macRnd z x y c) s = .next (r (mrInt s1 + p)) ∧
    exec (.msubRnd z x y c) s = .next (r (mrInt s1 - p)) ∧
    exec (.mrMrRnd z c) s = .next (r (mrInt s1))

/-- R221, R224 to R226: the squaring forms with (SS), (UU) and (RND). R221 gives them to later members
only and the spec has no parameter for it: that every member has them is log 23 (DEDUCED). -/
def Obligations.SquareForms : Prop :=
  ∀ (z : MacDest) (x : XMac) (c : Cond) (s s1 : State), When c s s1 →
    let ss := placed s1 ((xMac x s1).toInt * (xMac x s1).toInt)
    let uu := placed s1 ((xMac x s1).toNat * (xMac x s1).toNat)
    let rnd := fun n => macResult z s1 (Config.macRound (acc n))
    exec (.square z .mul .ss x c) s = .next (macResult z s1 (acc ss)) ∧
    exec (.square z .mac .ss x c) s = .next (macResult z s1 (acc (mrInt s1 + ss))) ∧
    exec (.square z .msub .ss x c) s = .next (macResult z s1 (acc (mrInt s1 - ss))) ∧
    exec (.square z .mul .uu x c) s = .next (macResult z s1 (acc uu)) ∧
    exec (.square z .mac .uu x c) s = .next (macResult z s1 (acc (mrInt s1 + uu))) ∧
    exec (.square z .msub .uu x c) s = .next (macResult z s1 (acc (mrInt s1 - uu))) ∧
    exec (.square z .mul .rnd x c) s = .next (rnd ss) ∧
    exec (.square z .mac .rnd x c) s = .next (rnd (mrInt s1 + ss)) ∧
    exec (.square z .msub .rnd x c) s = .next (rnd (mrInt s1 - ss))

/-- R227, R228, R229: CLEAR, TRANSFER MR and SATURATE MR, whose sign is that of the accumulator. -/
def Obligations.ClearTransferSaturate : Prop :=
  ∀ (z : MacDest) (c : Cond) (s s1 : State), When c s s1 →
    exec (.mrZero z c) s = .next (macResult z s1 0) ∧
    exec (.mrMr z c) s = .next (macResult z s1 (acc (mrInt s1))) ∧
    exec .satMr s = .next (
      if s.astat.getLsbD 6 = false then s.stepped
      else if mrInt s < 0 then
        (s.setBank { s.bank with mr2 := 0xFF#8, mr1 := 0x8000#16, mr0 := 0x0000#16 }).stepped
      else (s.setBank { s.bank with mr2 := 0x00#8, mr1 := 0x7FFF#16, mr0 := 0xFFFF#16 }).stepped)

/-! ### Shifter -/

/-- R253, R254, R258, R259, R252: the arithmetic and logical shifts, by SE or by a constant. -/
def Obligations.ShiftForms : Prop :=
  ∀ (o : Bool) (x : XShift) (h : Half) (e : Exp8) (c : Cond) (s s1 : State), When c s s1 →
    exec (.ashift o x h c) s =
      .next (srResult o s1 (shifted (xShift x s1) s1.bank.se.toInt h true)) ∧
    exec (.lshift o x h c) s =
      .next (srResult o s1 (shifted (xShift x s1) s1.bank.se.toInt h false)) ∧
    exec (.ashiftImm o x e h) s = .next (srResult o s (shifted (xShift x s) e.toInt h true)) ∧
    exec (.lshiftImm o x e h) s = .next (srResult o s (shifted (xShift x s) e.toInt h false))

/-- R255, R256, R257: NORM writes SR, EXP writes SE and SS, EXPADJ writes SB, with what the open
functions give, and nothing else. -/
def Obligations.NormExpExpadj : Prop :=
  ∀ (o : Bool) (x : XShift) (h : Half) (c : Cond) (s s1 : State), When c s s1 →
    let b := s1.bank
    let f := fun m => Config.expFn (xShift x s1) m b.se (s1.astat.getLsbD 7) (s1.astat.getLsbD 2)
    let after := fun m => ((s1.setBank { b with se := (f m).1 }).setAstat
      (BitVec.ofBool (f m).2 ++ s1.astat.extractLsb' 0 7)).stepped
    exec (.norm o x h c) s =
      .next (srResult o s1 (Config.normFn (xShift x s1) b.se h (carryIn s1))) ∧
    exec (.expHi x c) s = .next (after .hi) ∧
    exec (.expHix x c) s = .next (after .hix) ∧
    exec (.expLo x c) s = .next (after .lo) ∧
    exec (.expadj x c) s =
      .next ((s1.setBank { b with sb := Config.expadjFn (xShift x s1) b.sb }).stepped)

/-! ### MOVE -/

/-- R282, R283, R288, R281, R291, R36: what a MOVE into a register whose write has no further effect
leaves. A write of OWRCNTR is the model's reading (log 18). -/
def Obligations.MoveIntoRegister : Prop :=
  ∀ (i : Instr) (d : Reg) (e : DReg) (v k : Word) (s u : State), Straight s →
    (plainDest d = true → Moves i d v s u → exec i s = .next ((written v u d).stepped)) ∧
    exec (.dregData e k) s = .next ((written k s (.dreg e)).stepped)

/-- R291 (b), R31: an assignment to CNTR saves the count it replaces on the counter stack, if there
is one; on a full stack it faults. -/
def Obligations.MoveIntoCounter : Prop :=
  ∀ (i : Instr) (v : Word) (s u : State), Straight s → Moves i .cntr v s u →
    let t := (u.setCntr { value := BitVec.ofNat 14 v.toNat, loaded := true }).stepped
    (s.cntr.loaded = false → exec i s = .next t) ∧
    (s.cntr.loaded = true → s.stk.cntr.length < s.params.cntrDepth →
      exec i s = .next (t.setStk { s.stk with cntr := s.cntr.value :: s.stk.cntr })) ∧
    (s.cntr.loaded = true → s.params.cntrDepth ≤ s.stk.cntr.length →
      exec i s = .fault (.stackOverflow .cntr))

/-- R30, R383: a write of IFC changes only what IFC holds, the pending bits and the model's draws; of
an edge-sensitive source (by its kind, or by the ICNTL bit that marks it) the force bit sets and the
clear bit clears the pending bit; a level-sensitive source and a source with neither bit written keep
it. -/
def Obligations.WriteOfIfc : Prop :=
  ∀ (i : Instr) (v : Word) (s u : State), Straight s → Moves i .ifc v s u →
    DistinctBits s.params.sources →
    ∃ t, exec i s = .next t ∧
      ((t.setIfc s.ifc).setPending s.pending).setDraws s.draws = s.stepped ∧
      ∀ src ∈ s.params.sources,
        let hit := fun (b : Option (Fin 16)) =>
          ∃ k, b = some k ∧ k.val < s.params.ifcWidth ∧ v.getLsbD k.val = true
        (edgeSensitive s src = true → hit src.force → ¬ hit src.clear →
          t.pending.getLsbD src.bit.val = true) ∧
        (edgeSensitive s src = true → hit src.clear → ¬ hit src.force →
          t.pending.getLsbD src.bit.val = false) ∧
        (edgeSensitive s src = false ∨ (¬ hit src.force ∧ ¬ hit src.clear) →
          t.pending.getLsbD src.bit.val = s.pending.getLsbD src.bit.val)

/-- R284, R285, R286, R287, R89: the DM forms: the word at the index before its modification is
loaded or stored, then the index is modified; a direct store modifies nothing. Only the address
stored to changes in memory. -/
def Obligations.DmMoves : Prop :=
  ∀ (d r : DReg) (q : Reg) (p : Pair) (a : Addr) (v k : Word) (s u : State), Straight s →
    (HasDm s (dmEa p s) v → exec (.dregDm d p) s =
      .next ((written v (postModify p s) (.dreg d)).stepped)) ∧
    (RamDm s (dmEa p s) →
      exec (.dmDreg p r) s =
        .next ((postModify p (storedDm s (dmEa p s) (value s (.dreg r)))).stepped) ∧
      exec (.dmData p k) s = .next ((postModify p (storedDm s (dmEa p s) k)).stepped)) ∧
    (RamDm s a → Reads q v s u → exec (.dmAddrReg a q) s = .next ((storedDm u a v).stepped)) ∧
    ∀ b : Addr,
      (b ≠ dmEa p s →
        Memory.lookup (storedDm s (dmEa p s) v).dm b.toNat = Memory.lookup s.dm b.toNat) ∧
      (b ≠ a → Memory.lookup (storedDm u a v).dm b.toNat = Memory.lookup u.dm b.toNat)

/-- R289, R290, R88: the PM forms: 16 bits through the register, 8 through PX; a word written is
marked as the program's. Only the address stored to changes in memory. -/
def Obligations.PmMoves : Prop :=
  ∀ (d r : DReg) (p : Pair) (w : PmBits) (s : State), Straight s →
    (HasPm s (s.idx.get p.i) w →
      exec (.dregPm d p) s = .next ((fromPm d w (postModify p s)).stepped)) ∧
    (RamPm s (s.idx.get p.i) → exec (.pmDreg p r) s = .next ((postModify p
      (storedPm s (s.idx.get p.i) (overPx s (value s (.dreg r))))).stepped)) ∧
    ∀ b : Addr, b ≠ s.idx.get p.i →
      Memory.lookup (storedPm s (s.idx.get p.i) w).pm b.toNat = Memory.lookup s.pm b.toNat

/-- R89, R91, R356: MODIFY adds M to I modulo 2^14 where L is 0, and else takes what `circ_fn` gives;
the DM address of a pair is the index before that, bit-reversed for DAG1 under BIT_REV. -/
def Obligations.AddressGeneration : Prop :=
  ∀ (p : Pair) (s : State), Straight s →
    exec (.modify p) s = .next ((s.setIdx (s.idx.set p.i
      (if s.len.get p.i = 0 then
        BitVec.ofInt 14 ((s.idx.get p.i).toNat + (s.mdf.get p.m).toInt)
      else Config.circFn (s.idx.get p.i) (s.mdf.get p.m) (s.len.get p.i)))).stepped) ∧
    (postModify p s).stepped = s.stepped.setIdx (postModify p s).idx ∧
    exec (.modify p) s = .next ((postModify p s).stepped) ∧
    (s.mode .bitRev = false ∨ p.inDag2 = true → dmEa p s = s.idx.get p.i) ∧
    (s.mode .bitRev = true → p.inDag1 = true → dmEa p s = Config.bitrevFn (s.idx.get p.i))

/-! ### Program flow -/

/-- R301, R303: a taken JUMP sets the pc and nothing else; a taken CALL also pushes the address of
the following instruction. The indirect forms go to I4-I7, which they do not modify. -/
def Obligations.JumpAndCall : Prop :=
  ∀ (a : Addr) (i : DagIdx) (c : Cond) (s s1 : State), evalCond c s = .ok (true, s1) →
    ¬ AtLoopEnd s →
    let target := s1.idx.get ⟨i.val + 4, by omega⟩
    exec (.jumpAddr a c) s = .next (s1.setPc a) ∧
    exec (.jumpInd i c) s = .next (s1.setPc target) ∧
    (s.pc ≠ 0x3FFF#14 → s.stk.pc.length < s.params.pcDepth →
      exec (.callAddr a c) s =
        .next ((s1.setStk { s1.stk with pc := (s.pc + 1) :: s.stk.pc }).setPc a) ∧
      exec (.callInd i c) s =
        .next ((s1.setStk { s1.stk with pc := (s.pc + 1) :: s.stk.pc }).setPc target)) ∧
    (s.pc ≠ 0x3FFF#14 → s.params.pcDepth ≤ s.stk.pc.length →
      exec (.callAddr a c) s = .fault (.stackOverflow .pc) ∧
      exec (.callInd i c) s = .fault (.stackOverflow .pc)) ∧
    (s.pc = 0x3FFF#14 → exec (.callAddr a c) s = .fault .pcWrap ∧
      exec (.callInd i c) s = .fault .pcWrap)

/-- R302, R304, R38: JUMP and CALL on FLAG_IN draw a fresh sample of the pin (log 13) and take the
branch by it; nothing constrains the sample. A CALL that is taken faults on a full PC stack. -/
def Obligations.JumpAndCallOnFlag : Prop :=
  ∀ (n : Bool) (a : Addr) (s : State), ¬ AtLoopEnd s →
    let sample := Config.fiSample s.draws
    let u := (s.setFiSample sample).setDraws (s.draws + 1)
    let taken := if n then sample = false else sample = true
    (taken → exec (.jumpFlag n a) s = .next (u.setPc a) ∧
      (s.pc ≠ 0x3FFF#14 → s.stk.pc.length < s.params.pcDepth →
        exec (.callFlag n a) s =
          .next ((u.setStk { s.stk with pc := (s.pc + 1) :: s.stk.pc }).setPc a)) ∧
      (s.pc ≠ 0x3FFF#14 → s.params.pcDepth ≤ s.stk.pc.length →
        exec (.callFlag n a) s = .fault (.stackOverflow .pc)) ∧
      (s.pc = 0x3FFF#14 → exec (.callFlag n a) s = .fault .pcWrap)) ∧
    (¬ taken → s.pc ≠ 0x3FFF#14 → exec (.jumpFlag n a) s = .next u.stepped ∧
      exec (.callFlag n a) s = .next u.stepped) ∧
    (¬ taken → s.pc = 0x3FFF#14 → exec (.jumpFlag n a) s = .fault .pcWrap ∧
      exec (.callFlag n a) s = .fault .pcWrap)

/-- R386, and RTS (R305) beside it: RTI takes the pc from the PC stack and ASTAT, MSTAT and IMASK from
the status stack, and restores nothing else; RTS takes the pc; with a false condition neither does
anything but advance the pc; an empty stack faults. -/
def Obligations.Returns : Prop :=
  ∀ (c : Cond) (s s1 : State), ¬ AtLoopEnd s →
    (evalCond c s = .ok (true, s1) →
      (∀ a pcs, s.stk.pc = a :: pcs →
        exec (.rts c) s = .next ((s1.setStk { s1.stk with pc := pcs }).setPc a) ∧
        (∀ e rest, s.stk.sts = e :: rest →
          exec (.rti c) s = .next (((((s1.setStk { s1.stk with pc := pcs, sts := rest }).setAstat
            e.astat).setMstat e.mstat).setImask e.imask).setPc a)) ∧
        (s.stk.sts = [] → exec (.rti c) s = .fault (.stackUnderflow .sts))) ∧
      (s.stk.pc = [] → exec (.rts c) s = .fault (.stackUnderflow .pc) ∧
        exec (.rti c) s = .fault (.stackUnderflow .pc))) ∧
    (evalCond c s = .ok (false, s1) → s.pc ≠ 0x3FFF#14 →
      exec (.rts c) s = .next s1.stepped ∧ exec (.rti c) s = .next s1.stepped)

/-- R307: DO pushes the address of the loop's first instruction and the loop's end with its
termination, and faults on a full stack (R37); an end that is not after the DO is refused. -/
def Obligations.DoUntil : Prop :=
  ∀ (a : Addr) (t : Term) (s : State), ¬ AtLoopEnd s →
    (s.pc.toNat < a.toNat → (∀ e ∈ s.stk.loop, e.last ≠ a) →
      (s.stk.pc.length < s.params.pcDepth → s.stk.loop.length < s.params.loopDepth →
        exec (.doUntil a t) s = .next ((s.setStk { s.stk with
          pc := (s.pc + 1) :: s.stk.pc, loop := ⟨a, t⟩ :: s.stk.loop }).stepped)) ∧
      (s.params.pcDepth ≤ s.stk.pc.length →
        exec (.doUntil a t) s = .fault (.stackOverflow .pc)) ∧
      (s.stk.pc.length < s.params.pcDepth → s.params.loopDepth ≤ s.stk.loop.length →
        exec (.doUntil a t) s = .fault (.stackOverflow .loop))) ∧
    (a.toNat ≤ s.pc.toNat → exec (.doUntil a t) s = .refused .loopEndNotAfterDo)

/-- R309, R310, R390: IDLE, and IDLE with a divisor where the member has it, wait at the following
address; an idle core with nothing to deliver takes no step. -/
def Obligations.IdleWaits : Prop :=
  ∀ (n : IdleDiv) (s : State),
    (Straight s → exec .idle s = .next (s.stepped.setIdle true) ∧
      (s.params.hasIdleN = true → exec (.idleN n) s = .next (s.stepped.setIdle true))) ∧
    (s.idle = true → s.env = [] → deliverable s = none → step s = .next s)

/-- R308: a program flow instruction at a loop's end is refused. That it is refused whatever its
condition, also where the condition is false and R301 to R306 send it to `pc + 1` as a NOP (R340), is
the model's reading (log 16, DEDUCED). -/
def Obligations.FlowAtLoopEndRefused : Prop :=
  ∀ (i : Instr) (s : State), isFlow i = true → Exists i s → AtLoopEnd s →
    exec i s = .refused .controlTransferAtLoopEnd

/-! ### Miscellaneous -/

/-- R340: NOP changes nothing but the pc, which goes to the next address, or at a loop's end where
R308 sends it; a conditional instruction whose condition is false behaves as NOP does in the state
after the condition's evaluation (the transfers away from a loop's end, where R308 refuses them). -/
def Obligations.NopOnlyPc : Prop :=
  ∀ s : State,
    (Straight s → exec .nop s = .next (s.setPc (s.pc + 1))) ∧
    (∀ rest a pcs, s.pc ≠ 0x3FFF#14 → s.stk.loop = ⟨s.pc, .forever⟩ :: rest → s.stk.pc = a :: pcs →
      exec .nop s = .next (s.setPc a)) ∧
    ∀ (i : Instr) (c : Cond) (s1 : State), condOf i = some c → Exists i s →
      evalCond c s = .ok (false, s1) → (isFlow i = true → ¬ AtLoopEnd s) →
      exec i s = exec .nop s1

/-- R342 to R346, R37: what each stack clause leaves, and its fault on a full or an empty stack. After
POP LOOP the loop-end check is against the next entry down, whatever the popped entry's end was: where
that entry ends here, its loop is left or goes round (R308). -/
def Obligations.StackClauses : Prop :=
  ∀ s : State,
    (s.params.stsDepth ≤ s.stk.sts.length → exec .pushSts s = .fault (.stackOverflow .sts)) ∧
    (s.stk.sts = [] → exec .popSts s = .fault (.stackUnderflow .sts)) ∧
    (s.stk.cntr = [] → exec .popCntr s = .fault (.stackUnderflow .cntr)) ∧
    (s.stk.pc = [] → exec .popPc s = .fault (.stackUnderflow .pc)) ∧
    (s.stk.loop = [] → exec .popLoop s = .fault (.stackUnderflow .loop)) ∧
    (Straight s →
      (s.stk.sts.length < s.params.stsDepth → exec .pushSts s = .next ((s.setStk { s.stk with
        sts := ⟨s.astat, s.mstat, s.imask⟩ :: s.stk.sts }).stepped)) ∧
      (∀ e rest, s.stk.sts = e :: rest →
        exec .popSts s = .next (((((s.setStk { s.stk with sts := rest }).setAstat e.astat).setMstat
          e.mstat).setImask e.imask).stepped)) ∧
      (∀ n rest, s.stk.cntr = n :: rest → exec .popCntr s =
        .next (((s.setStk { s.stk with cntr := rest }).setCntr ⟨n, true⟩).stepped)) ∧
      (∀ a rest, s.stk.pc = a :: rest →
        exec .popPc s = .next ((s.setStk { s.stk with pc := rest }).stepped))) ∧
    (s.pc ≠ 0x3FFF#14 → ∀ e rest, s.stk.loop = e :: rest →
      ((∀ f below, rest = f :: below → f.last ≠ s.pc) →
        exec .popLoop s = .next ((s.setStk { s.stk with loop := rest }).stepped)) ∧
      (∀ f below a pcs, rest = f :: below → f.last = s.pc → f.term ≠ .ce → s.stk.pc = a :: pcs →
        exec .popLoop s = .next (if termTruth s.astat f.term then
          (s.setStk { s.stk with pc := pcs, loop := below }).stepped
          else (s.setStk { s.stk with loop := rest }).setPc a)))

/-- R341: the clauses of one statement act on their four stacks together, whichever they are: each
stack that is named is popped or pushed, CNTR and the status words take what their stacks gave, and
nothing else changes but the pc. -/
def Obligations.StackControlTogether : Prop :=
  ∀ (o : StackOps) (s : State), s.pc ≠ 0x3FFF#14 →
    (∀ e rest, popped o.loop s.stk.loop = e :: rest → e.last ≠ s.pc) →
    (o.cntr = true → s.stk.cntr ≠ []) → (o.pc = true → s.stk.pc ≠ []) →
    (o.loop = true → s.stk.loop ≠ []) → (o.sts = some .pop → s.stk.sts ≠ []) →
    (o.sts = some .push → s.stk.sts.length < s.params.stsDepth) →
    ∃ t, exec (.stackControl o) s = .next t ∧
      t.stk = { pc := popped o.pc s.stk.pc, cntr := popped o.cntr s.stk.cntr,
                loop := popped o.loop s.stk.loop,
                sts := stsAfter o.sts s } ∧
      (∀ n rest, o.cntr = true → s.stk.cntr = n :: rest → t.cntr = ⟨n, true⟩) ∧
      (o.cntr = false → t.cntr = s.cntr) ∧
      (∀ g rest, o.sts = some .pop → s.stk.sts = g :: rest →
        t.astat = g.astat ∧ t.mstat = g.mstat ∧ t.imask = g.imask) ∧
      (o.sts ≠ some .pop → t.astat = s.astat ∧ t.mstat = s.mstat ∧ t.imask = s.imask) ∧
      ((((t.setStk s.stk).setCntr s.cntr).setAstat s.astat).setMstat s.mstat).setImask s.imask =
        s.stepped

/-- R347, R348: after `ENA m` or `DIS m` the mode `m` is 1 or 0; a statement of several clauses sets
the modes it enables and clears those it disables; every other mode, and everything else, is as
before. -/
def Obligations.ModeControl : Prop :=
  ∀ s : State, Straight s →
    (∀ x ∈ [(Mode.timer, Instr.enaTimer, Instr.disTimer), (.mMode, .enaMMode, .disMMode),
        (.arSat, .enaArSat, .disArSat), (.avLatch, .enaAvLatch, .disAvLatch),
        (.bitRev, .enaBitRev, .disBitRev), (.secReg, .enaSecReg, .disSecReg),
        (.gMode, .enaGMode, .disGMode)],
      ∃ t u, exec x.2.1 s = .next t ∧ exec x.2.2 s = .next u ∧
        t.mode x.1 = true ∧ u.mode x.1 = false ∧
        (∀ m, m ≠ x.1 → t.mode m = s.mode m ∧ u.mode m = s.mode m) ∧
        t.setMstat s.mstat = s.stepped ∧ u.setMstat s.mstat = s.stepped) ∧
    ∀ o : ModeOps, ∃ t, exec (.modeControl o) s = .next t ∧ t.setMstat s.mstat = s.stepped ∧
      let tells := fun (w : Switch) (m : Mode) =>
        t.mode m = match w with
          | .ena => true
          | .dis => false
          | .keep => s.mode m
      tells o.timer .timer ∧ tells o.mMode .mMode ∧ tells o.arSat .arSat ∧
        tells o.avLatch .avLatch ∧ tells o.bitRev .bitRev ∧ tells o.secReg .secReg ∧
        tells o.gMode .gMode

/-- R357, R38: the flag out statement sets, clears or toggles the pins it names; where a pin changes
it is an output event (that none is one where no pin changes is the model's choice, log 27). -/
def Obligations.FlagOutPins : Prop :=
  ∀ (o : FlagOps) (c : Cond) (s s1 : State), When c s s1 → Exists (.flagOut o c) s →
    ∃ p : Pins,
      (let tells := fun (w : FlagOp) (now before : Bool) =>
        now = match w with
          | .set => true
          | .reset => false
          | .toggle => !before
          | .keep => before
      tells o.fo p.fo s.pins.fo ∧ tells o.fl0 p.fl0 s.pins.fl0 ∧ tells o.fl1 p.fl1 s.pins.fl1 ∧
        tells o.fl2 p.fl2 s.pins.fl2) ∧
      exec (.flagOut o c) s = .next (if p = s.pins then s1.stepped
        else ((s1.setPins p).setOutputs (.pins p :: s.outputs)).stepped)

/-- R358, R359, R383: ENA INTS and DIS INTS write the one bit; after DIS INTS nothing is delivered,
whatever IMASK holds. -/
def Obligations.InterruptEnable : Prop :=
  ∀ s : State, Straight s → s.params.hasIntsInstr = true →
    exec .enaInts s = .next ((s.setInts true).stepped) ∧
    exec .disInts s = .next ((s.setInts false).stepped) ∧
    deliverable ((s.setInts false).stepped) = none

/-! ### Multifunction -/

/-- R152, R153, R151, R88: the two reads load the words at the old indices and modify both; with a
computation the result is that of the computation alone on the state before. -/
def Obligations.TwoReadForms : Prop :=
  ∀ (o : Comp) (d : XDual) (e : YDual) (p q : Pair) (v : Word) (w : PmBits) (s : State),
    Straight s → o.notFeedback = true → HasDm s (dmEa p s) v → HasPm s (s.idx.get q.i) w →
    let moves := fun t : State =>
      fromPm (yReg e) w
        (written v (t.setIdx (postModify q (postModify p s)).idx) (.dreg (xReg d)))
    exec (.dualRead d p e q) s = .next (moves s.stepped) ∧
    ∃ t, exec (compInstr o) s = .next t ∧ exec (.compDmPm o d p e q) s = .next (moves t)

/-- R154, R155, R158, R151: a computation with a read or a register move: the computation's own
result, and over it the word loaded, or the source's value before the instruction, where the two
write different registers. -/
def Obligations.ComputeWithLoad : Prop :=
  ∀ (o : Comp) (f : ShiftFn) (d r : DReg) (p : Pair) (v : Word) (w : PmBits) (s : State),
    Straight s →
    (Machine.Comp.writes o d = false → ∃ t, exec (compInstr o) s = .next t ∧
      exec (.compMove o d r) s = .next (written (value s (.dreg r)) t (.dreg d)) ∧
      (HasDm s (dmEa p s) v →
        exec (.compDm o d p) s = .next (written v (t.setIdx (postModify p s).idx) (.dreg d))) ∧
      (HasPm s (s.idx.get p.i) w →
        exec (.compPm o d p) s = .next (fromPm d w (t.setIdx (postModify p s).idx)))) ∧
    (Machine.ShiftFn.writes f d = false → ∃ t, exec (f.instr .always) s = .next t ∧
      exec (.shiftMove f d r) s = .next (written (value s (.dreg r)) t (.dreg d)) ∧
      (HasDm s (dmEa p s) v →
        exec (.shiftDm f d p) s = .next (written v (t.setIdx (postModify p s).idx) (.dreg d))) ∧
      (HasPm s (s.idx.get p.i) w →
        exec (.shiftPm f d p) s = .next (fromPm d w (t.setIdx (postModify p s).idx))))

/-- R156, R157, R151: a computation with a write: memory receives the register's value before the
instruction, and the computation's own result follows. -/
def Obligations.ComputeWithWrite : Prop :=
  ∀ (o : Comp) (f : ShiftFn) (r : DReg) (p : Pair) (s : State), Straight s →
    (∃ t, exec (compInstr o) s = .next t ∧
      (RamDm s (dmEa p s) → exec (.dmComp p r o) s =
        .next ((storedDm t (dmEa p s) (value s (.dreg r))).setIdx (postModify p s).idx)) ∧
      (RamPm s (s.idx.get p.i) → exec (.pmComp p r o) s =
        .next ((storedPm t (s.idx.get p.i) (overPx s (value s (.dreg r)))).setIdx
          (postModify p s).idx))) ∧
    (∃ t, exec (f.instr .always) s = .next t ∧
      (RamDm s (dmEa p s) → exec (.dmShift p r f) s =
        .next ((storedDm t (dmEa p s) (value s (.dreg r))).setIdx (postModify p s).idx)) ∧
      (RamPm s (s.idx.get p.i) → exec (.pmShift p r f) s =
        .next ((storedPm t (s.idx.get p.i) (overPx s (value s (.dreg r)))).setIdx
          (postModify p s).idx)))

/-- R160: two clauses that write one register are refused: AR, the parts of MR, SR0 and SR1, SE. R121: a
constant that is not in `alu_constants` is no instruction. U13, R6: a form the member does not have is
refused. -/
def Obligations.RefusedForms : Prop :=
  ∀ (f : AluFn) (g : MacFn) (n : ShiftKind) (o : Bool) (h : Half) (m : ExpMode) (x : XShift)
    (r : DReg) (p : Pair) (i : Instr) (q : FlagOps) (c : Cond) (d : IdleDiv) (s : State),
    exec (.compDm (.alu f .ar) .ar p) s = .refused (.twoWrites .ar) ∧
    exec (.compPm (.alu f .ar) .ar p) s = .refused (.twoWrites .ar) ∧
    exec (.compMove (.alu f .ar) .ar r) s = .refused (.twoWrites .ar) ∧
    (∀ d ∈ [DReg.mr0, .mr1, .mr2], exec (.compDm (.mac g .mr) d p) s = .refused (.twoWrites d) ∧
      exec (.compPm (.mac g .mr) d p) s = .refused (.twoWrites d) ∧
      exec (.compMove (.mac g .mr) d r) s = .refused (.twoWrites d)) ∧
    (∀ d ∈ [DReg.sr0, .sr1],
      exec (.shiftDm (.shift n o h x) d p) s = .refused (.twoWrites d) ∧
      exec (.shiftPm (.shift n o h x) d p) s = .refused (.twoWrites d) ∧
      exec (.shiftMove (.shift n o h x) d r) s = .refused (.twoWrites d)) ∧
    exec (.shiftMove (.exp m x) .se r) s = .refused (.twoWrites .se) ∧
    exec (.shiftDm (.exp m x) .se p) s = .refused (.twoWrites .se) ∧
    exec (.shiftPm (.exp m x) .se p) s = .refused (.twoWrites .se) ∧
    (s.params.hasAluConstants = true → ∀ v, constantOf i = some v → v ∉ s.params.aluConstants →
      exec i s = .refused .notAnInstruction) ∧
    (s.params.hasAluConstants = false → constForm i = true → exec i s = .refused .formAbsent) ∧
    (s.params.hasFlagPins = false → (q.fl0 ≠ .keep ∨ q.fl1 ≠ .keep ∨ q.fl2 ≠ .keep) →
      exec (.flagOut q c) s = .refused .formAbsent) ∧
    (s.params.hasIdleN = false → exec (.idleN d) s = .refused .formAbsent) ∧
    (s.params.hasIntsInstr = false → exec .enaInts s = .refused .formAbsent ∧
      exec .disInts s = .refused .formAbsent)

/-! ### Interrupts and the other agents -/

/-- R383, R384: a source is delivered exactly when interrupts are enabled, it is pending and unmasked,
and no source before it in priority order is. -/
def Obligations.HighestPriorityDelivered : Prop :=
  ∀ (s : State) (src : IntSource),
    (deliverable s = some src → s.ints = true ∧ ∃ pre post,
      s.params.sources = pre ++ src :: post ∧ Ready s src ∧ ∀ x ∈ pre, ¬ Ready s x) ∧
    ∀ pre post, s.ints = true → s.params.sources = pre ++ src :: post → Ready s src →
      (∀ x ∈ pre, ¬ Ready s x) → deliverable s = some src

/-- R385: interrupt entry, whether the core was running or idle: the pc and the status words are
saved, IMASK is masked, an edge-sensitive request ends, the pc is the vector; a full PC or status stack
faults. That the entry is the very next turn of the core is log 29 (DEDUCED). -/
def Obligations.InterruptEntry : Prop :=
  ∀ (s u : State) (src : IntSource), CoreTurn s u → deliverable s = some src →
    (s.params.pcDepth ≤ s.stk.pc.length → step s = .fault (.stackOverflow .pc)) ∧
    (s.stk.pc.length < s.params.pcDepth → s.params.stsDepth ≤ s.stk.sts.length →
      step s = .fault (.stackOverflow .sts)) ∧
    (s.stk.pc.length < s.params.pcDepth → s.stk.sts.length < s.params.stsDepth →
      ∃ mask pend : BitVec 16,
        step s = .next (((((u.setStk { s.stk with
          pc := s.pc :: s.stk.pc, sts := ⟨s.astat, s.mstat, s.imask⟩ :: s.stk.sts }).setImask
            mask).setPending pend).setIdle false).setPc src.vector) ∧
        (s.icntl.getLsbD 4 = false → mask = 0) ∧
        (s.icntl.getLsbD 4 = true → DistinctBits s.params.sources →
          ∀ pre post, s.params.sources = pre ++ src :: post →
            (∀ x ∈ src :: post, mask.getLsbD x.bit.val = false) ∧
            (∀ x ∈ pre, mask.getLsbD x.bit.val = s.imask.getLsbD x.bit.val)) ∧
        ∀ k : Fin 16, pend.getLsbD k.val =
          (if edgeSensitive s src = true ∧ k = src.bit then false else s.pending.getLsbD k.val))

/-- R386, R385: RTI right after an interrupt's entry comes back to the state interrupted, but for the
request taken and the end of the wait. -/
def Obligations.RtiUndoesEntry : Prop :=
  ∀ (s t : State) (src : IntSource), takeInterrupt src s = .ok t → ¬ AtLoopEnd t →
    exec (.rti .always) t = .next ((s.setPending t.pending).setIdle false)

/-- R381, R392, R383: a request sets its source's pending bit and nothing else, the timer's only
while TIMER is 1; only a level-sensitive request is withdrawn. R97, R395, R396: a DMA move (where the
member has DMA) or another bus master's write stores one word between two instructions and changes
nothing of the core. An autobuffer move goes through its register too and modifies its index register.
The model's choices in it: a timer request while TIMER is 0, and a DMA write on a member without DMA,
change nothing (log 14); the address of an autobuffer move, and that its I and M may be any pair (GK3;
log 14); another bus master writes at any address the map admits, on any member (log 24); a DMA read
changes nothing (log 28); a PM address the program has written stays so marked (R100), and another
gets no mark (log 31). -/
def Obligations.OtherAgents : Prop :=
  ∀ (s : State) (rest : List (Option EnvMove)) (sp : Space) (a : Addr) (v : Word) (w : PmBits)
    (port : Bool) (p : Pair),
    (∀ src ∈ s.params.sources, DistinctBits s.params.sources →
      (s.env = some (.request src.bit) :: rest →
        ∃ t, step s = .next t ∧ t.setPending s.pending = s.setEnv rest ∧
          ∀ k : Fin 16, t.pending.getLsbD k.val =
            (if k = src.bit ∧ (s.params.timerBit = some src.bit → s.mode .timer = true) then true
              else s.pending.getLsbD k.val)) ∧
      (s.env = some (.withdraw src.bit) :: rest →
        ∃ t, step s = .next t ∧ t.setPending s.pending = s.setEnv rest ∧
          ∀ k : Fin 16, t.pending.getLsbD k.val =
            (if k = src.bit ∧ edgeSensitive s src = false then false else s.pending.getLsbD k.val))) ∧
    (s.env = some (.dmaWriteDm a v) :: rest ∧ s.params.hasDma = true ∨
        s.env = some (.busWriteDm a v) :: rest → RamDm s a →
      step s = .next (storedDm (s.setEnv rest) a v)) ∧
    (s.env = some (.dmaWritePm a w) :: rest ∧ s.params.hasDma = true ∨
        s.env = some (.busWritePm a w) :: rest → RamPm s a →
      ∃ mark, (mark = true ↔ ∃ x, Memory.lookup s.pm a.toNat = some (.word x true)) ∧
        step s = .next ((s.setEnv rest).setPm (Memory.store s.pm a.toNat (.word w mark)))) ∧
    (s.env = some (.dmaRead sp a) :: rest ∨ (s.params.hasDma = false ∧
        (s.env = some (.dmaWriteDm a v) :: rest ∨ s.env = some (.dmaWritePm a w) :: rest)) →
      step s = .next (s.setEnv rest)) ∧
    (s.env = some (.autoIn port p v) :: rest → RamDm s (dmEa p s) →
      step s = .next (postModify p ((storedDm (s.setEnv rest) (dmEa p s) v).setSerial
        (if port then { s.serial with rx1 := v } else { s.serial with rx0 := v })))) ∧
    (s.env = some (.autoOut port p) :: rest → HasDm s (dmEa p s) v →
      step s = .next (postModify p (((s.setEnv rest).setSerial
        (if port then { s.serial with tx1 := v } else { s.serial with tx0 := v })).setOutputs
          (.tx port v :: s.outputs))))

/-! ### Every step -/

/-- Every step keeps the invariant: the memories canonical and within the launch map (R85, R86), the
stacks within their depths (R37), IMASK and IFC within their widths (R30), no pending bit but a
source's (R381). -/
def Obligations.StepKeepsInv : Prop := ∀ s t : State, Inv s → step s = .next t → Inv t

/-- R44: no step changes a launch parameter. -/
def Obligations.ParametersFixed : Prop := ∀ s t : State, step s = .next t → t.params = s.params

/-- R39: no instruction changes the register set that SEC_REG does not select at its start. R383,
R41, R42: none but a MOVE to IFC changes a pending request, none but ENA INTS and DIS INTS the global
enable, none but IDLE makes the core idle. -/
def Obligations.InstructionFrames : Prop :=
  ∀ (i : Instr) (s t : State), exec i s = .next t →
    (s.mode .secReg = false → t.secondary = s.secondary) ∧
    (s.mode .secReg = true → t.primary = s.primary) ∧
    (writesReg .ifc i = false → t.pending = s.pending) ∧
    (i ≠ .enaInts → i ≠ .disInts → t.ints = s.ints) ∧
    (i ≠ .idle → (∀ n, i ≠ .idleN n) → t.idle = s.idle) ∧ t.env = s.env
end

