-- ==== Sys2Proof/Laws/State.lean ====
section
/-! SUPPORT. What each update of one field leaves in every field, true by rfl. -/

namespace Sys2Proof.Machine

variable (s : State)

section setPc
variable (v : Addr)
@[simp] theorem State.setPc_pc : (s.setPc v).pc = v := rfl
@[simp] theorem State.setPc_primary : (s.setPc v).primary = s.primary := rfl
@[simp] theorem State.setPc_secondary : (s.setPc v).secondary = s.secondary := rfl
@[simp] theorem State.setPc_idx : (s.setPc v).idx = s.idx := rfl
@[simp] theorem State.setPc_mdf : (s.setPc v).mdf = s.mdf := rfl
@[simp] theorem State.setPc_len : (s.setPc v).len = s.len := rfl
@[simp] theorem State.setPc_px : (s.setPc v).px = s.px := rfl
@[simp] theorem State.setPc_cntr : (s.setPc v).cntr = s.cntr := rfl
@[simp] theorem State.setPc_astat : (s.setPc v).astat = s.astat := rfl
@[simp] theorem State.setPc_mstat : (s.setPc v).mstat = s.mstat := rfl
@[simp] theorem State.setPc_imask : (s.setPc v).imask = s.imask := rfl
@[simp] theorem State.setPc_icntl : (s.setPc v).icntl = s.icntl := rfl
@[simp] theorem State.setPc_ifc : (s.setPc v).ifc = s.ifc := rfl
@[simp] theorem State.setPc_serial : (s.setPc v).serial = s.serial := rfl
@[simp] theorem State.setPc_stk : (s.setPc v).stk = s.stk := rfl
@[simp] theorem State.setPc_fiSample : (s.setPc v).fiSample = s.fiSample := rfl
@[simp] theorem State.setPc_pins : (s.setPc v).pins = s.pins := rfl
@[simp] theorem State.setPc_ints : (s.setPc v).ints = s.ints := rfl
@[simp] theorem State.setPc_idle : (s.setPc v).idle = s.idle := rfl
@[simp] theorem State.setPc_pending : (s.setPc v).pending = s.pending := rfl
@[simp] theorem State.setPc_dm : (s.setPc v).dm = s.dm := rfl
@[simp] theorem State.setPc_pm : (s.setPc v).pm = s.pm := rfl
@[simp] theorem State.setPc_outputs : (s.setPc v).outputs = s.outputs := rfl
@[simp] theorem State.setPc_env : (s.setPc v).env = s.env := rfl
@[simp] theorem State.setPc_draws : (s.setPc v).draws = s.draws := rfl
@[simp] theorem State.setPc_params : (s.setPc v).params = s.params := rfl
@[simp] theorem State.setPc_setPc (w : Addr) : (s.setPc v).setPc w = s.setPc w := rfl
end setPc

section setPrimary
variable (v : Bank)
@[simp] theorem State.setPrimary_pc : (s.setPrimary v).pc = s.pc := rfl
@[simp] theorem State.setPrimary_primary : (s.setPrimary v).primary = v := rfl
@[simp] theorem State.setPrimary_secondary : (s.setPrimary v).secondary = s.secondary := rfl
@[simp] theorem State.setPrimary_idx : (s.setPrimary v).idx = s.idx := rfl
@[simp] theorem State.setPrimary_mdf : (s.setPrimary v).mdf = s.mdf := rfl
@[simp] theorem State.setPrimary_len : (s.setPrimary v).len = s.len := rfl
@[simp] theorem State.setPrimary_px : (s.setPrimary v).px = s.px := rfl
@[simp] theorem State.setPrimary_cntr : (s.setPrimary v).cntr = s.cntr := rfl
@[simp] theorem State.setPrimary_astat : (s.setPrimary v).astat = s.astat := rfl
@[simp] theorem State.setPrimary_mstat : (s.setPrimary v).mstat = s.mstat := rfl
@[simp] theorem State.setPrimary_imask : (s.setPrimary v).imask = s.imask := rfl
@[simp] theorem State.setPrimary_icntl : (s.setPrimary v).icntl = s.icntl := rfl
@[simp] theorem State.setPrimary_ifc : (s.setPrimary v).ifc = s.ifc := rfl
@[simp] theorem State.setPrimary_serial : (s.setPrimary v).serial = s.serial := rfl
@[simp] theorem State.setPrimary_stk : (s.setPrimary v).stk = s.stk := rfl
@[simp] theorem State.setPrimary_fiSample : (s.setPrimary v).fiSample = s.fiSample := rfl
@[simp] theorem State.setPrimary_pins : (s.setPrimary v).pins = s.pins := rfl
@[simp] theorem State.setPrimary_ints : (s.setPrimary v).ints = s.ints := rfl
@[simp] theorem State.setPrimary_idle : (s.setPrimary v).idle = s.idle := rfl
@[simp] theorem State.setPrimary_pending : (s.setPrimary v).pending = s.pending := rfl
@[simp] theorem State.setPrimary_dm : (s.setPrimary v).dm = s.dm := rfl
@[simp] theorem State.setPrimary_pm : (s.setPrimary v).pm = s.pm := rfl
@[simp] theorem State.setPrimary_outputs : (s.setPrimary v).outputs = s.outputs := rfl
@[simp] theorem State.setPrimary_env : (s.setPrimary v).env = s.env := rfl
@[simp] theorem State.setPrimary_draws : (s.setPrimary v).draws = s.draws := rfl
@[simp] theorem State.setPrimary_params : (s.setPrimary v).params = s.params := rfl
@[simp] theorem State.setPrimary_setPrimary (w : Bank) : (s.setPrimary v).setPrimary w = s.setPrimary w := rfl
end setPrimary

section setSecondary
variable (v : Bank)
@[simp] theorem State.setSecondary_pc : (s.setSecondary v).pc = s.pc := rfl
@[simp] theorem State.setSecondary_primary : (s.setSecondary v).primary = s.primary := rfl
@[simp] theorem State.setSecondary_secondary : (s.setSecondary v).secondary = v := rfl
@[simp] theorem State.setSecondary_idx : (s.setSecondary v).idx = s.idx := rfl
@[simp] theorem State.setSecondary_mdf : (s.setSecondary v).mdf = s.mdf := rfl
@[simp] theorem State.setSecondary_len : (s.setSecondary v).len = s.len := rfl
@[simp] theorem State.setSecondary_px : (s.setSecondary v).px = s.px := rfl
@[simp] theorem State.setSecondary_cntr : (s.setSecondary v).cntr = s.cntr := rfl
@[simp] theorem State.setSecondary_astat : (s.setSecondary v).astat = s.astat := rfl
@[simp] theorem State.setSecondary_mstat : (s.setSecondary v).mstat = s.mstat := rfl
@[simp] theorem State.setSecondary_imask : (s.setSecondary v).imask = s.imask := rfl
@[simp] theorem State.setSecondary_icntl : (s.setSecondary v).icntl = s.icntl := rfl
@[simp] theorem State.setSecondary_ifc : (s.setSecondary v).ifc = s.ifc := rfl
@[simp] theorem State.setSecondary_serial : (s.setSecondary v).serial = s.serial := rfl
@[simp] theorem State.setSecondary_stk : (s.setSecondary v).stk = s.stk := rfl
@[simp] theorem State.setSecondary_fiSample : (s.setSecondary v).fiSample = s.fiSample := rfl
@[simp] theorem State.setSecondary_pins : (s.setSecondary v).pins = s.pins := rfl
@[simp] theorem State.setSecondary_ints : (s.setSecondary v).ints = s.ints := rfl
@[simp] theorem State.setSecondary_idle : (s.setSecondary v).idle = s.idle := rfl
@[simp] theorem State.setSecondary_pending : (s.setSecondary v).pending = s.pending := rfl
@[simp] theorem State.setSecondary_dm : (s.setSecondary v).dm = s.dm := rfl
@[simp] theorem State.setSecondary_pm : (s.setSecondary v).pm = s.pm := rfl
@[simp] theorem State.setSecondary_outputs : (s.setSecondary v).outputs = s.outputs := rfl
@[simp] theorem State.setSecondary_env : (s.setSecondary v).env = s.env := rfl
@[simp] theorem State.setSecondary_draws : (s.setSecondary v).draws = s.draws := rfl
@[simp] theorem State.setSecondary_params : (s.setSecondary v).params = s.params := rfl
@[simp] theorem State.setSecondary_setSecondary (w : Bank) : (s.setSecondary v).setSecondary w = s.setSecondary w := rfl
end setSecondary

section setIdx
variable (v : Vector Addr 8)
@[simp] theorem State.setIdx_pc : (s.setIdx v).pc = s.pc := rfl
@[simp] theorem State.setIdx_primary : (s.setIdx v).primary = s.primary := rfl
@[simp] theorem State.setIdx_secondary : (s.setIdx v).secondary = s.secondary := rfl
@[simp] theorem State.setIdx_idx : (s.setIdx v).idx = v := rfl
@[simp] theorem State.setIdx_mdf : (s.setIdx v).mdf = s.mdf := rfl
@[simp] theorem State.setIdx_len : (s.setIdx v).len = s.len := rfl
@[simp] theorem State.setIdx_px : (s.setIdx v).px = s.px := rfl
@[simp] theorem State.setIdx_cntr : (s.setIdx v).cntr = s.cntr := rfl
@[simp] theorem State.setIdx_astat : (s.setIdx v).astat = s.astat := rfl
@[simp] theorem State.setIdx_mstat : (s.setIdx v).mstat = s.mstat := rfl
@[simp] theorem State.setIdx_imask : (s.setIdx v).imask = s.imask := rfl
@[simp] theorem State.setIdx_icntl : (s.setIdx v).icntl = s.icntl := rfl
@[simp] theorem State.setIdx_ifc : (s.setIdx v).ifc = s.ifc := rfl
@[simp] theorem State.setIdx_serial : (s.setIdx v).serial = s.serial := rfl
@[simp] theorem State.setIdx_stk : (s.setIdx v).stk = s.stk := rfl
@[simp] theorem State.setIdx_fiSample : (s.setIdx v).fiSample = s.fiSample := rfl
@[simp] theorem State.setIdx_pins : (s.setIdx v).pins = s.pins := rfl
@[simp] theorem State.setIdx_ints : (s.setIdx v).ints = s.ints := rfl
@[simp] theorem State.setIdx_idle : (s.setIdx v).idle = s.idle := rfl
@[simp] theorem State.setIdx_pending : (s.setIdx v).pending = s.pending := rfl
@[simp] theorem State.setIdx_dm : (s.setIdx v).dm = s.dm := rfl
@[simp] theorem State.setIdx_pm : (s.setIdx v).pm = s.pm := rfl
@[simp] theorem State.setIdx_outputs : (s.setIdx v).outputs = s.outputs := rfl
@[simp] theorem State.setIdx_env : (s.setIdx v).env = s.env := rfl
@[simp] theorem State.setIdx_draws : (s.setIdx v).draws = s.draws := rfl
@[simp] theorem State.setIdx_params : (s.setIdx v).params = s.params := rfl
@[simp] theorem State.setIdx_setIdx (w : Vector Addr 8) : (s.setIdx v).setIdx w = s.setIdx w := rfl
end setIdx

section setMdf
variable (v : Vector Addr 8)
@[simp] theorem State.setMdf_pc : (s.setMdf v).pc = s.pc := rfl
@[simp] theorem State.setMdf_primary : (s.setMdf v).primary = s.primary := rfl
@[simp] theorem State.setMdf_secondary : (s.setMdf v).secondary = s.secondary := rfl
@[simp] theorem State.setMdf_idx : (s.setMdf v).idx = s.idx := rfl
@[simp] theorem State.setMdf_mdf : (s.setMdf v).mdf = v := rfl
@[simp] theorem State.setMdf_len : (s.setMdf v).len = s.len := rfl
@[simp] theorem State.setMdf_px : (s.setMdf v).px = s.px := rfl
@[simp] theorem State.setMdf_cntr : (s.setMdf v).cntr = s.cntr := rfl
@[simp] theorem State.setMdf_astat : (s.setMdf v).astat = s.astat := rfl
@[simp] theorem State.setMdf_mstat : (s.setMdf v).mstat = s.mstat := rfl
@[simp] theorem State.setMdf_imask : (s.setMdf v).imask = s.imask := rfl
@[simp] theorem State.setMdf_icntl : (s.setMdf v).icntl = s.icntl := rfl
@[simp] theorem State.setMdf_ifc : (s.setMdf v).ifc = s.ifc := rfl
@[simp] theorem State.setMdf_serial : (s.setMdf v).serial = s.serial := rfl
@[simp] theorem State.setMdf_stk : (s.setMdf v).stk = s.stk := rfl
@[simp] theorem State.setMdf_fiSample : (s.setMdf v).fiSample = s.fiSample := rfl
@[simp] theorem State.setMdf_pins : (s.setMdf v).pins = s.pins := rfl
@[simp] theorem State.setMdf_ints : (s.setMdf v).ints = s.ints := rfl
@[simp] theorem State.setMdf_idle : (s.setMdf v).idle = s.idle := rfl
@[simp] theorem State.setMdf_pending : (s.setMdf v).pending = s.pending := rfl
@[simp] theorem State.setMdf_dm : (s.setMdf v).dm = s.dm := rfl
@[simp] theorem State.setMdf_pm : (s.setMdf v).pm = s.pm := rfl
@[simp] theorem State.setMdf_outputs : (s.setMdf v).outputs = s.outputs := rfl
@[simp] theorem State.setMdf_env : (s.setMdf v).env = s.env := rfl
@[simp] theorem State.setMdf_draws : (s.setMdf v).draws = s.draws := rfl
@[simp] theorem State.setMdf_params : (s.setMdf v).params = s.params := rfl
@[simp] theorem State.setMdf_setMdf (w : Vector Addr 8) : (s.setMdf v).setMdf w = s.setMdf w := rfl
end setMdf

section setLen
variable (v : Vector Addr 8)
@[simp] theorem State.setLen_pc : (s.setLen v).pc = s.pc := rfl
@[simp] theorem State.setLen_primary : (s.setLen v).primary = s.primary := rfl
@[simp] theorem State.setLen_secondary : (s.setLen v).secondary = s.secondary := rfl
@[simp] theorem State.setLen_idx : (s.setLen v).idx = s.idx := rfl
@[simp] theorem State.setLen_mdf : (s.setLen v).mdf = s.mdf := rfl
@[simp] theorem State.setLen_len : (s.setLen v).len = v := rfl
@[simp] theorem State.setLen_px : (s.setLen v).px = s.px := rfl
@[simp] theorem State.setLen_cntr : (s.setLen v).cntr = s.cntr := rfl
@[simp] theorem State.setLen_astat : (s.setLen v).astat = s.astat := rfl
@[simp] theorem State.setLen_mstat : (s.setLen v).mstat = s.mstat := rfl
@[simp] theorem State.setLen_imask : (s.setLen v).imask = s.imask := rfl
@[simp] theorem State.setLen_icntl : (s.setLen v).icntl = s.icntl := rfl
@[simp] theorem State.setLen_ifc : (s.setLen v).ifc = s.ifc := rfl
@[simp] theorem State.setLen_serial : (s.setLen v).serial = s.serial := rfl
@[simp] theorem State.setLen_stk : (s.setLen v).stk = s.stk := rfl
@[simp] theorem State.setLen_fiSample : (s.setLen v).fiSample = s.fiSample := rfl
@[simp] theorem State.setLen_pins : (s.setLen v).pins = s.pins := rfl
@[simp] theorem State.setLen_ints : (s.setLen v).ints = s.ints := rfl
@[simp] theorem State.setLen_idle : (s.setLen v).idle = s.idle := rfl
@[simp] theorem State.setLen_pending : (s.setLen v).pending = s.pending := rfl
@[simp] theorem State.setLen_dm : (s.setLen v).dm = s.dm := rfl
@[simp] theorem State.setLen_pm : (s.setLen v).pm = s.pm := rfl
@[simp] theorem State.setLen_outputs : (s.setLen v).outputs = s.outputs := rfl
@[simp] theorem State.setLen_env : (s.setLen v).env = s.env := rfl
@[simp] theorem State.setLen_draws : (s.setLen v).draws = s.draws := rfl
@[simp] theorem State.setLen_params : (s.setLen v).params = s.params := rfl
@[simp] theorem State.setLen_setLen (w : Vector Addr 8) : (s.setLen v).setLen w = s.setLen w := rfl
end setLen

section setPx
variable (v : BitVec 8)
@[simp] theorem State.setPx_pc : (s.setPx v).pc = s.pc := rfl
@[simp] theorem State.setPx_primary : (s.setPx v).primary = s.primary := rfl
@[simp] theorem State.setPx_secondary : (s.setPx v).secondary = s.secondary := rfl
@[simp] theorem State.setPx_idx : (s.setPx v).idx = s.idx := rfl
@[simp] theorem State.setPx_mdf : (s.setPx v).mdf = s.mdf := rfl
@[simp] theorem State.setPx_len : (s.setPx v).len = s.len := rfl
@[simp] theorem State.setPx_px : (s.setPx v).px = v := rfl
@[simp] theorem State.setPx_cntr : (s.setPx v).cntr = s.cntr := rfl
@[simp] theorem State.setPx_astat : (s.setPx v).astat = s.astat := rfl
@[simp] theorem State.setPx_mstat : (s.setPx v).mstat = s.mstat := rfl
@[simp] theorem State.setPx_imask : (s.setPx v).imask = s.imask := rfl
@[simp] theorem State.setPx_icntl : (s.setPx v).icntl = s.icntl := rfl
@[simp] theorem State.setPx_ifc : (s.setPx v).ifc = s.ifc := rfl
@[simp] theorem State.setPx_serial : (s.setPx v).serial = s.serial := rfl
@[simp] theorem State.setPx_stk : (s.setPx v).stk = s.stk := rfl
@[simp] theorem State.setPx_fiSample : (s.setPx v).fiSample = s.fiSample := rfl
@[simp] theorem State.setPx_pins : (s.setPx v).pins = s.pins := rfl
@[simp] theorem State.setPx_ints : (s.setPx v).ints = s.ints := rfl
@[simp] theorem State.setPx_idle : (s.setPx v).idle = s.idle := rfl
@[simp] theorem State.setPx_pending : (s.setPx v).pending = s.pending := rfl
@[simp] theorem State.setPx_dm : (s.setPx v).dm = s.dm := rfl
@[simp] theorem State.setPx_pm : (s.setPx v).pm = s.pm := rfl
@[simp] theorem State.setPx_outputs : (s.setPx v).outputs = s.outputs := rfl
@[simp] theorem State.setPx_env : (s.setPx v).env = s.env := rfl
@[simp] theorem State.setPx_draws : (s.setPx v).draws = s.draws := rfl
@[simp] theorem State.setPx_params : (s.setPx v).params = s.params := rfl
@[simp] theorem State.setPx_setPx (w : BitVec 8) : (s.setPx v).setPx w = s.setPx w := rfl
end setPx

section setCntr
variable (v : Counter)
@[simp] theorem State.setCntr_pc : (s.setCntr v).pc = s.pc := rfl
@[simp] theorem State.setCntr_primary : (s.setCntr v).primary = s.primary := rfl
@[simp] theorem State.setCntr_secondary : (s.setCntr v).secondary = s.secondary := rfl
@[simp] theorem State.setCntr_idx : (s.setCntr v).idx = s.idx := rfl
@[simp] theorem State.setCntr_mdf : (s.setCntr v).mdf = s.mdf := rfl
@[simp] theorem State.setCntr_len : (s.setCntr v).len = s.len := rfl
@[simp] theorem State.setCntr_px : (s.setCntr v).px = s.px := rfl
@[simp] theorem State.setCntr_cntr : (s.setCntr v).cntr = v := rfl
@[simp] theorem State.setCntr_astat : (s.setCntr v).astat = s.astat := rfl
@[simp] theorem State.setCntr_mstat : (s.setCntr v).mstat = s.mstat := rfl
@[simp] theorem State.setCntr_imask : (s.setCntr v).imask = s.imask := rfl
@[simp] theorem State.setCntr_icntl : (s.setCntr v).icntl = s.icntl := rfl
@[simp] theorem State.setCntr_ifc : (s.setCntr v).ifc = s.ifc := rfl
@[simp] theorem State.setCntr_serial : (s.setCntr v).serial = s.serial := rfl
@[simp] theorem State.setCntr_stk : (s.setCntr v).stk = s.stk := rfl
@[simp] theorem State.setCntr_fiSample : (s.setCntr v).fiSample = s.fiSample := rfl
@[simp] theorem State.setCntr_pins : (s.setCntr v).pins = s.pins := rfl
@[simp] theorem State.setCntr_ints : (s.setCntr v).ints = s.ints := rfl
@[simp] theorem State.setCntr_idle : (s.setCntr v).idle = s.idle := rfl
@[simp] theorem State.setCntr_pending : (s.setCntr v).pending = s.pending := rfl
@[simp] theorem State.setCntr_dm : (s.setCntr v).dm = s.dm := rfl
@[simp] theorem State.setCntr_pm : (s.setCntr v).pm = s.pm := rfl
@[simp] theorem State.setCntr_outputs : (s.setCntr v).outputs = s.outputs := rfl
@[simp] theorem State.setCntr_env : (s.setCntr v).env = s.env := rfl
@[simp] theorem State.setCntr_draws : (s.setCntr v).draws = s.draws := rfl
@[simp] theorem State.setCntr_params : (s.setCntr v).params = s.params := rfl
@[simp] theorem State.setCntr_setCntr (w : Counter) : (s.setCntr v).setCntr w = s.setCntr w := rfl
end setCntr

section setAstat
variable (v : BitVec 8)
@[simp] theorem State.setAstat_pc : (s.setAstat v).pc = s.pc := rfl
@[simp] theorem State.setAstat_primary : (s.setAstat v).primary = s.primary := rfl
@[simp] theorem State.setAstat_secondary : (s.setAstat v).secondary = s.secondary := rfl
@[simp] theorem State.setAstat_idx : (s.setAstat v).idx = s.idx := rfl
@[simp] theorem State.setAstat_mdf : (s.setAstat v).mdf = s.mdf := rfl
@[simp] theorem State.setAstat_len : (s.setAstat v).len = s.len := rfl
@[simp] theorem State.setAstat_px : (s.setAstat v).px = s.px := rfl
@[simp] theorem State.setAstat_cntr : (s.setAstat v).cntr = s.cntr := rfl
@[simp] theorem State.setAstat_astat : (s.setAstat v).astat = v := rfl
@[simp] theorem State.setAstat_mstat : (s.setAstat v).mstat = s.mstat := rfl
@[simp] theorem State.setAstat_imask : (s.setAstat v).imask = s.imask := rfl
@[simp] theorem State.setAstat_icntl : (s.setAstat v).icntl = s.icntl := rfl
@[simp] theorem State.setAstat_ifc : (s.setAstat v).ifc = s.ifc := rfl
@[simp] theorem State.setAstat_serial : (s.setAstat v).serial = s.serial := rfl
@[simp] theorem State.setAstat_stk : (s.setAstat v).stk = s.stk := rfl
@[simp] theorem State.setAstat_fiSample : (s.setAstat v).fiSample = s.fiSample := rfl
@[simp] theorem State.setAstat_pins : (s.setAstat v).pins = s.pins := rfl
@[simp] theorem State.setAstat_ints : (s.setAstat v).ints = s.ints := rfl
@[simp] theorem State.setAstat_idle : (s.setAstat v).idle = s.idle := rfl
@[simp] theorem State.setAstat_pending : (s.setAstat v).pending = s.pending := rfl
@[simp] theorem State.setAstat_dm : (s.setAstat v).dm = s.dm := rfl
@[simp] theorem State.setAstat_pm : (s.setAstat v).pm = s.pm := rfl
@[simp] theorem State.setAstat_outputs : (s.setAstat v).outputs = s.outputs := rfl
@[simp] theorem State.setAstat_env : (s.setAstat v).env = s.env := rfl
@[simp] theorem State.setAstat_draws : (s.setAstat v).draws = s.draws := rfl
@[simp] theorem State.setAstat_params : (s.setAstat v).params = s.params := rfl
@[simp] theorem State.setAstat_setAstat (w : BitVec 8) : (s.setAstat v).setAstat w = s.setAstat w := rfl
end setAstat

section setMstat
variable (v : BitVec 7)
@[simp] theorem State.setMstat_pc : (s.setMstat v).pc = s.pc := rfl
@[simp] theorem State.setMstat_primary : (s.setMstat v).primary = s.primary := rfl
@[simp] theorem State.setMstat_secondary : (s.setMstat v).secondary = s.secondary := rfl
@[simp] theorem State.setMstat_idx : (s.setMstat v).idx = s.idx := rfl
@[simp] theorem State.setMstat_mdf : (s.setMstat v).mdf = s.mdf := rfl
@[simp] theorem State.setMstat_len : (s.setMstat v).len = s.len := rfl
@[simp] theorem State.setMstat_px : (s.setMstat v).px = s.px := rfl
@[simp] theorem State.setMstat_cntr : (s.setMstat v).cntr = s.cntr := rfl
@[simp] theorem State.setMstat_astat : (s.setMstat v).astat = s.astat := rfl
@[simp] theorem State.setMstat_mstat : (s.setMstat v).mstat = v := rfl
@[simp] theorem State.setMstat_imask : (s.setMstat v).imask = s.imask := rfl
@[simp] theorem State.setMstat_icntl : (s.setMstat v).icntl = s.icntl := rfl
@[simp] theorem State.setMstat_ifc : (s.setMstat v).ifc = s.ifc := rfl
@[simp] theorem State.setMstat_serial : (s.setMstat v).serial = s.serial := rfl
@[simp] theorem State.setMstat_stk : (s.setMstat v).stk = s.stk := rfl
@[simp] theorem State.setMstat_fiSample : (s.setMstat v).fiSample = s.fiSample := rfl
@[simp] theorem State.setMstat_pins : (s.setMstat v).pins = s.pins := rfl
@[simp] theorem State.setMstat_ints : (s.setMstat v).ints = s.ints := rfl
@[simp] theorem State.setMstat_idle : (s.setMstat v).idle = s.idle := rfl
@[simp] theorem State.setMstat_pending : (s.setMstat v).pending = s.pending := rfl
@[simp] theorem State.setMstat_dm : (s.setMstat v).dm = s.dm := rfl
@[simp] theorem State.setMstat_pm : (s.setMstat v).pm = s.pm := rfl
@[simp] theorem State.setMstat_outputs : (s.setMstat v).outputs = s.outputs := rfl
@[simp] theorem State.setMstat_env : (s.setMstat v).env = s.env := rfl
@[simp] theorem State.setMstat_draws : (s.setMstat v).draws = s.draws := rfl
@[simp] theorem State.setMstat_params : (s.setMstat v).params = s.params := rfl
@[simp] theorem State.setMstat_setMstat (w : BitVec 7) : (s.setMstat v).setMstat w = s.setMstat w := rfl
end setMstat

section setImask
variable (v : Word)
@[simp] theorem State.setImask_pc : (s.setImask v).pc = s.pc := rfl
@[simp] theorem State.setImask_primary : (s.setImask v).primary = s.primary := rfl
@[simp] theorem State.setImask_secondary : (s.setImask v).secondary = s.secondary := rfl
@[simp] theorem State.setImask_idx : (s.setImask v).idx = s.idx := rfl
@[simp] theorem State.setImask_mdf : (s.setImask v).mdf = s.mdf := rfl
@[simp] theorem State.setImask_len : (s.setImask v).len = s.len := rfl
@[simp] theorem State.setImask_px : (s.setImask v).px = s.px := rfl
@[simp] theorem State.setImask_cntr : (s.setImask v).cntr = s.cntr := rfl
@[simp] theorem State.setImask_astat : (s.setImask v).astat = s.astat := rfl
@[simp] theorem State.setImask_mstat : (s.setImask v).mstat = s.mstat := rfl
@[simp] theorem State.setImask_imask : (s.setImask v).imask = v := rfl
@[simp] theorem State.setImask_icntl : (s.setImask v).icntl = s.icntl := rfl
@[simp] theorem State.setImask_ifc : (s.setImask v).ifc = s.ifc := rfl
@[simp] theorem State.setImask_serial : (s.setImask v).serial = s.serial := rfl
@[simp] theorem State.setImask_stk : (s.setImask v).stk = s.stk := rfl
@[simp] theorem State.setImask_fiSample : (s.setImask v).fiSample = s.fiSample := rfl
@[simp] theorem State.setImask_pins : (s.setImask v).pins = s.pins := rfl
@[simp] theorem State.setImask_ints : (s.setImask v).ints = s.ints := rfl
@[simp] theorem State.setImask_idle : (s.setImask v).idle = s.idle := rfl
@[simp] theorem State.setImask_pending : (s.setImask v).pending = s.pending := rfl
@[simp] theorem State.setImask_dm : (s.setImask v).dm = s.dm := rfl
@[simp] theorem State.setImask_pm : (s.setImask v).pm = s.pm := rfl
@[simp] theorem State.setImask_outputs : (s.setImask v).outputs = s.outputs := rfl
@[simp] theorem State.setImask_env : (s.setImask v).env = s.env := rfl
@[simp] theorem State.setImask_draws : (s.setImask v).draws = s.draws := rfl
@[simp] theorem State.setImask_params : (s.setImask v).params = s.params := rfl
@[simp] theorem State.setImask_setImask (w : Word) : (s.setImask v).setImask w = s.setImask w := rfl
end setImask

section setIcntl
variable (v : BitVec 5)
@[simp] theorem State.setIcntl_pc : (s.setIcntl v).pc = s.pc := rfl
@[simp] theorem State.setIcntl_primary : (s.setIcntl v).primary = s.primary := rfl
@[simp] theorem State.setIcntl_secondary : (s.setIcntl v).secondary = s.secondary := rfl
@[simp] theorem State.setIcntl_idx : (s.setIcntl v).idx = s.idx := rfl
@[simp] theorem State.setIcntl_mdf : (s.setIcntl v).mdf = s.mdf := rfl
@[simp] theorem State.setIcntl_len : (s.setIcntl v).len = s.len := rfl
@[simp] theorem State.setIcntl_px : (s.setIcntl v).px = s.px := rfl
@[simp] theorem State.setIcntl_cntr : (s.setIcntl v).cntr = s.cntr := rfl
@[simp] theorem State.setIcntl_astat : (s.setIcntl v).astat = s.astat := rfl
@[simp] theorem State.setIcntl_mstat : (s.setIcntl v).mstat = s.mstat := rfl
@[simp] theorem State.setIcntl_imask : (s.setIcntl v).imask = s.imask := rfl
@[simp] theorem State.setIcntl_icntl : (s.setIcntl v).icntl = v := rfl
@[simp] theorem State.setIcntl_ifc : (s.setIcntl v).ifc = s.ifc := rfl
@[simp] theorem State.setIcntl_serial : (s.setIcntl v).serial = s.serial := rfl
@[simp] theorem State.setIcntl_stk : (s.setIcntl v).stk = s.stk := rfl
@[simp] theorem State.setIcntl_fiSample : (s.setIcntl v).fiSample = s.fiSample := rfl
@[simp] theorem State.setIcntl_pins : (s.setIcntl v).pins = s.pins := rfl
@[simp] theorem State.setIcntl_ints : (s.setIcntl v).ints = s.ints := rfl
@[simp] theorem State.setIcntl_idle : (s.setIcntl v).idle = s.idle := rfl
@[simp] theorem State.setIcntl_pending : (s.setIcntl v).pending = s.pending := rfl
@[simp] theorem State.setIcntl_dm : (s.setIcntl v).dm = s.dm := rfl
@[simp] theorem State.setIcntl_pm : (s.setIcntl v).pm = s.pm := rfl
@[simp] theorem State.setIcntl_outputs : (s.setIcntl v).outputs = s.outputs := rfl
@[simp] theorem State.setIcntl_env : (s.setIcntl v).env = s.env := rfl
@[simp] theorem State.setIcntl_draws : (s.setIcntl v).draws = s.draws := rfl
@[simp] theorem State.setIcntl_params : (s.setIcntl v).params = s.params := rfl
@[simp] theorem State.setIcntl_setIcntl (w : BitVec 5) : (s.setIcntl v).setIcntl w = s.setIcntl w := rfl
end setIcntl

section setIfc
variable (v : Word)
@[simp] theorem State.setIfc_pc : (s.setIfc v).pc = s.pc := rfl
@[simp] theorem State.setIfc_primary : (s.setIfc v).primary = s.primary := rfl
@[simp] theorem State.setIfc_secondary : (s.setIfc v).secondary = s.secondary := rfl
@[simp] theorem State.setIfc_idx : (s.setIfc v).idx = s.idx := rfl
@[simp] theorem State.setIfc_mdf : (s.setIfc v).mdf = s.mdf := rfl
@[simp] theorem State.setIfc_len : (s.setIfc v).len = s.len := rfl
@[simp] theorem State.setIfc_px : (s.setIfc v).px = s.px := rfl
@[simp] theorem State.setIfc_cntr : (s.setIfc v).cntr = s.cntr := rfl
@[simp] theorem State.setIfc_astat : (s.setIfc v).astat = s.astat := rfl
@[simp] theorem State.setIfc_mstat : (s.setIfc v).mstat = s.mstat := rfl
@[simp] theorem State.setIfc_imask : (s.setIfc v).imask = s.imask := rfl
@[simp] theorem State.setIfc_icntl : (s.setIfc v).icntl = s.icntl := rfl
@[simp] theorem State.setIfc_ifc : (s.setIfc v).ifc = v := rfl
@[simp] theorem State.setIfc_serial : (s.setIfc v).serial = s.serial := rfl
@[simp] theorem State.setIfc_stk : (s.setIfc v).stk = s.stk := rfl
@[simp] theorem State.setIfc_fiSample : (s.setIfc v).fiSample = s.fiSample := rfl
@[simp] theorem State.setIfc_pins : (s.setIfc v).pins = s.pins := rfl
@[simp] theorem State.setIfc_ints : (s.setIfc v).ints = s.ints := rfl
@[simp] theorem State.setIfc_idle : (s.setIfc v).idle = s.idle := rfl
@[simp] theorem State.setIfc_pending : (s.setIfc v).pending = s.pending := rfl
@[simp] theorem State.setIfc_dm : (s.setIfc v).dm = s.dm := rfl
@[simp] theorem State.setIfc_pm : (s.setIfc v).pm = s.pm := rfl
@[simp] theorem State.setIfc_outputs : (s.setIfc v).outputs = s.outputs := rfl
@[simp] theorem State.setIfc_env : (s.setIfc v).env = s.env := rfl
@[simp] theorem State.setIfc_draws : (s.setIfc v).draws = s.draws := rfl
@[simp] theorem State.setIfc_params : (s.setIfc v).params = s.params := rfl
@[simp] theorem State.setIfc_setIfc (w : Word) : (s.setIfc v).setIfc w = s.setIfc w := rfl
end setIfc

section setSerial
variable (v : Serial)
@[simp] theorem State.setSerial_pc : (s.setSerial v).pc = s.pc := rfl
@[simp] theorem State.setSerial_primary : (s.setSerial v).primary = s.primary := rfl
@[simp] theorem State.setSerial_secondary : (s.setSerial v).secondary = s.secondary := rfl
@[simp] theorem State.setSerial_idx : (s.setSerial v).idx = s.idx := rfl
@[simp] theorem State.setSerial_mdf : (s.setSerial v).mdf = s.mdf := rfl
@[simp] theorem State.setSerial_len : (s.setSerial v).len = s.len := rfl
@[simp] theorem State.setSerial_px : (s.setSerial v).px = s.px := rfl
@[simp] theorem State.setSerial_cntr : (s.setSerial v).cntr = s.cntr := rfl
@[simp] theorem State.setSerial_astat : (s.setSerial v).astat = s.astat := rfl
@[simp] theorem State.setSerial_mstat : (s.setSerial v).mstat = s.mstat := rfl
@[simp] theorem State.setSerial_imask : (s.setSerial v).imask = s.imask := rfl
@[simp] theorem State.setSerial_icntl : (s.setSerial v).icntl = s.icntl := rfl
@[simp] theorem State.setSerial_ifc : (s.setSerial v).ifc = s.ifc := rfl
@[simp] theorem State.setSerial_serial : (s.setSerial v).serial = v := rfl
@[simp] theorem State.setSerial_stk : (s.setSerial v).stk = s.stk := rfl
@[simp] theorem State.setSerial_fiSample : (s.setSerial v).fiSample = s.fiSample := rfl
@[simp] theorem State.setSerial_pins : (s.setSerial v).pins = s.pins := rfl
@[simp] theorem State.setSerial_ints : (s.setSerial v).ints = s.ints := rfl
@[simp] theorem State.setSerial_idle : (s.setSerial v).idle = s.idle := rfl
@[simp] theorem State.setSerial_pending : (s.setSerial v).pending = s.pending := rfl
@[simp] theorem State.setSerial_dm : (s.setSerial v).dm = s.dm := rfl
@[simp] theorem State.setSerial_pm : (s.setSerial v).pm = s.pm := rfl
@[simp] theorem State.setSerial_outputs : (s.setSerial v).outputs = s.outputs := rfl
@[simp] theorem State.setSerial_env : (s.setSerial v).env = s.env := rfl
@[simp] theorem State.setSerial_draws : (s.setSerial v).draws = s.draws := rfl
@[simp] theorem State.setSerial_params : (s.setSerial v).params = s.params := rfl
@[simp] theorem State.setSerial_setSerial (w : Serial) : (s.setSerial v).setSerial w = s.setSerial w := rfl
end setSerial

section setStk
variable (v : Stacks)
@[simp] theorem State.setStk_pc : (s.setStk v).pc = s.pc := rfl
@[simp] theorem State.setStk_primary : (s.setStk v).primary = s.primary := rfl
@[simp] theorem State.setStk_secondary : (s.setStk v).secondary = s.secondary := rfl
@[simp] theorem State.setStk_idx : (s.setStk v).idx = s.idx := rfl
@[simp] theorem State.setStk_mdf : (s.setStk v).mdf = s.mdf := rfl
@[simp] theorem State.setStk_len : (s.setStk v).len = s.len := rfl
@[simp] theorem State.setStk_px : (s.setStk v).px = s.px := rfl
@[simp] theorem State.setStk_cntr : (s.setStk v).cntr = s.cntr := rfl
@[simp] theorem State.setStk_astat : (s.setStk v).astat = s.astat := rfl
@[simp] theorem State.setStk_mstat : (s.setStk v).mstat = s.mstat := rfl
@[simp] theorem State.setStk_imask : (s.setStk v).imask = s.imask := rfl
@[simp] theorem State.setStk_icntl : (s.setStk v).icntl = s.icntl := rfl
@[simp] theorem State.setStk_ifc : (s.setStk v).ifc = s.ifc := rfl
@[simp] theorem State.setStk_serial : (s.setStk v).serial = s.serial := rfl
@[simp] theorem State.setStk_stk : (s.setStk v).stk = v := rfl
@[simp] theorem State.setStk_fiSample : (s.setStk v).fiSample = s.fiSample := rfl
@[simp] theorem State.setStk_pins : (s.setStk v).pins = s.pins := rfl
@[simp] theorem State.setStk_ints : (s.setStk v).ints = s.ints := rfl
@[simp] theorem State.setStk_idle : (s.setStk v).idle = s.idle := rfl
@[simp] theorem State.setStk_pending : (s.setStk v).pending = s.pending := rfl
@[simp] theorem State.setStk_dm : (s.setStk v).dm = s.dm := rfl
@[simp] theorem State.setStk_pm : (s.setStk v).pm = s.pm := rfl
@[simp] theorem State.setStk_outputs : (s.setStk v).outputs = s.outputs := rfl
@[simp] theorem State.setStk_env : (s.setStk v).env = s.env := rfl
@[simp] theorem State.setStk_draws : (s.setStk v).draws = s.draws := rfl
@[simp] theorem State.setStk_params : (s.setStk v).params = s.params := rfl
@[simp] theorem State.setStk_setStk (w : Stacks) : (s.setStk v).setStk w = s.setStk w := rfl
end setStk

section setFiSample
variable (v : Bool)
@[simp] theorem State.setFiSample_pc : (s.setFiSample v).pc = s.pc := rfl
@[simp] theorem State.setFiSample_primary : (s.setFiSample v).primary = s.primary := rfl
@[simp] theorem State.setFiSample_secondary : (s.setFiSample v).secondary = s.secondary := rfl
@[simp] theorem State.setFiSample_idx : (s.setFiSample v).idx = s.idx := rfl
@[simp] theorem State.setFiSample_mdf : (s.setFiSample v).mdf = s.mdf := rfl
@[simp] theorem State.setFiSample_len : (s.setFiSample v).len = s.len := rfl
@[simp] theorem State.setFiSample_px : (s.setFiSample v).px = s.px := rfl
@[simp] theorem State.setFiSample_cntr : (s.setFiSample v).cntr = s.cntr := rfl
@[simp] theorem State.setFiSample_astat : (s.setFiSample v).astat = s.astat := rfl
@[simp] theorem State.setFiSample_mstat : (s.setFiSample v).mstat = s.mstat := rfl
@[simp] theorem State.setFiSample_imask : (s.setFiSample v).imask = s.imask := rfl
@[simp] theorem State.setFiSample_icntl : (s.setFiSample v).icntl = s.icntl := rfl
@[simp] theorem State.setFiSample_ifc : (s.setFiSample v).ifc = s.ifc := rfl
@[simp] theorem State.setFiSample_serial : (s.setFiSample v).serial = s.serial := rfl
@[simp] theorem State.setFiSample_stk : (s.setFiSample v).stk = s.stk := rfl
@[simp] theorem State.setFiSample_fiSample : (s.setFiSample v).fiSample = v := rfl
@[simp] theorem State.setFiSample_pins : (s.setFiSample v).pins = s.pins := rfl
@[simp] theorem State.setFiSample_ints : (s.setFiSample v).ints = s.ints := rfl
@[simp] theorem State.setFiSample_idle : (s.setFiSample v).idle = s.idle := rfl
@[simp] theorem State.setFiSample_pending : (s.setFiSample v).pending = s.pending := rfl
@[simp] theorem State.setFiSample_dm : (s.setFiSample v).dm = s.dm := rfl
@[simp] theorem State.setFiSample_pm : (s.setFiSample v).pm = s.pm := rfl
@[simp] theorem State.setFiSample_outputs : (s.setFiSample v).outputs = s.outputs := rfl
@[simp] theorem State.setFiSample_env : (s.setFiSample v).env = s.env := rfl
@[simp] theorem State.setFiSample_draws : (s.setFiSample v).draws = s.draws := rfl
@[simp] theorem State.setFiSample_params : (s.setFiSample v).params = s.params := rfl
@[simp] theorem State.setFiSample_setFiSample (w : Bool) : (s.setFiSample v).setFiSample w = s.setFiSample w := rfl
end setFiSample

section setPins
variable (v : Pins)
@[simp] theorem State.setPins_pc : (s.setPins v).pc = s.pc := rfl
@[simp] theorem State.setPins_primary : (s.setPins v).primary = s.primary := rfl
@[simp] theorem State.setPins_secondary : (s.setPins v).secondary = s.secondary := rfl
@[simp] theorem State.setPins_idx : (s.setPins v).idx = s.idx := rfl
@[simp] theorem State.setPins_mdf : (s.setPins v).mdf = s.mdf := rfl
@[simp] theorem State.setPins_len : (s.setPins v).len = s.len := rfl
@[simp] theorem State.setPins_px : (s.setPins v).px = s.px := rfl
@[simp] theorem State.setPins_cntr : (s.setPins v).cntr = s.cntr := rfl
@[simp] theorem State.setPins_astat : (s.setPins v).astat = s.astat := rfl
@[simp] theorem State.setPins_mstat : (s.setPins v).mstat = s.mstat := rfl
@[simp] theorem State.setPins_imask : (s.setPins v).imask = s.imask := rfl
@[simp] theorem State.setPins_icntl : (s.setPins v).icntl = s.icntl := rfl
@[simp] theorem State.setPins_ifc : (s.setPins v).ifc = s.ifc := rfl
@[simp] theorem State.setPins_serial : (s.setPins v).serial = s.serial := rfl
@[simp] theorem State.setPins_stk : (s.setPins v).stk = s.stk := rfl
@[simp] theorem State.setPins_fiSample : (s.setPins v).fiSample = s.fiSample := rfl
@[simp] theorem State.setPins_pins : (s.setPins v).pins = v := rfl
@[simp] theorem State.setPins_ints : (s.setPins v).ints = s.ints := rfl
@[simp] theorem State.setPins_idle : (s.setPins v).idle = s.idle := rfl
@[simp] theorem State.setPins_pending : (s.setPins v).pending = s.pending := rfl
@[simp] theorem State.setPins_dm : (s.setPins v).dm = s.dm := rfl
@[simp] theorem State.setPins_pm : (s.setPins v).pm = s.pm := rfl
@[simp] theorem State.setPins_outputs : (s.setPins v).outputs = s.outputs := rfl
@[simp] theorem State.setPins_env : (s.setPins v).env = s.env := rfl
@[simp] theorem State.setPins_draws : (s.setPins v).draws = s.draws := rfl
@[simp] theorem State.setPins_params : (s.setPins v).params = s.params := rfl
@[simp] theorem State.setPins_setPins (w : Pins) : (s.setPins v).setPins w = s.setPins w := rfl
end setPins

section setInts
variable (v : Bool)
@[simp] theorem State.setInts_pc : (s.setInts v).pc = s.pc := rfl
@[simp] theorem State.setInts_primary : (s.setInts v).primary = s.primary := rfl
@[simp] theorem State.setInts_secondary : (s.setInts v).secondary = s.secondary := rfl
@[simp] theorem State.setInts_idx : (s.setInts v).idx = s.idx := rfl
@[simp] theorem State.setInts_mdf : (s.setInts v).mdf = s.mdf := rfl
@[simp] theorem State.setInts_len : (s.setInts v).len = s.len := rfl
@[simp] theorem State.setInts_px : (s.setInts v).px = s.px := rfl
@[simp] theorem State.setInts_cntr : (s.setInts v).cntr = s.cntr := rfl
@[simp] theorem State.setInts_astat : (s.setInts v).astat = s.astat := rfl
@[simp] theorem State.setInts_mstat : (s.setInts v).mstat = s.mstat := rfl
@[simp] theorem State.setInts_imask : (s.setInts v).imask = s.imask := rfl
@[simp] theorem State.setInts_icntl : (s.setInts v).icntl = s.icntl := rfl
@[simp] theorem State.setInts_ifc : (s.setInts v).ifc = s.ifc := rfl
@[simp] theorem State.setInts_serial : (s.setInts v).serial = s.serial := rfl
@[simp] theorem State.setInts_stk : (s.setInts v).stk = s.stk := rfl
@[simp] theorem State.setInts_fiSample : (s.setInts v).fiSample = s.fiSample := rfl
@[simp] theorem State.setInts_pins : (s.setInts v).pins = s.pins := rfl
@[simp] theorem State.setInts_ints : (s.setInts v).ints = v := rfl
@[simp] theorem State.setInts_idle : (s.setInts v).idle = s.idle := rfl
@[simp] theorem State.setInts_pending : (s.setInts v).pending = s.pending := rfl
@[simp] theorem State.setInts_dm : (s.setInts v).dm = s.dm := rfl
@[simp] theorem State.setInts_pm : (s.setInts v).pm = s.pm := rfl
@[simp] theorem State.setInts_outputs : (s.setInts v).outputs = s.outputs := rfl
@[simp] theorem State.setInts_env : (s.setInts v).env = s.env := rfl
@[simp] theorem State.setInts_draws : (s.setInts v).draws = s.draws := rfl
@[simp] theorem State.setInts_params : (s.setInts v).params = s.params := rfl
@[simp] theorem State.setInts_setInts (w : Bool) : (s.setInts v).setInts w = s.setInts w := rfl
end setInts

section setIdle
variable (v : Bool)
@[simp] theorem State.setIdle_pc : (s.setIdle v).pc = s.pc := rfl
@[simp] theorem State.setIdle_primary : (s.setIdle v).primary = s.primary := rfl
@[simp] theorem State.setIdle_secondary : (s.setIdle v).secondary = s.secondary := rfl
@[simp] theorem State.setIdle_idx : (s.setIdle v).idx = s.idx := rfl
@[simp] theorem State.setIdle_mdf : (s.setIdle v).mdf = s.mdf := rfl
@[simp] theorem State.setIdle_len : (s.setIdle v).len = s.len := rfl
@[simp] theorem State.setIdle_px : (s.setIdle v).px = s.px := rfl
@[simp] theorem State.setIdle_cntr : (s.setIdle v).cntr = s.cntr := rfl
@[simp] theorem State.setIdle_astat : (s.setIdle v).astat = s.astat := rfl
@[simp] theorem State.setIdle_mstat : (s.setIdle v).mstat = s.mstat := rfl
@[simp] theorem State.setIdle_imask : (s.setIdle v).imask = s.imask := rfl
@[simp] theorem State.setIdle_icntl : (s.setIdle v).icntl = s.icntl := rfl
@[simp] theorem State.setIdle_ifc : (s.setIdle v).ifc = s.ifc := rfl
@[simp] theorem State.setIdle_serial : (s.setIdle v).serial = s.serial := rfl
@[simp] theorem State.setIdle_stk : (s.setIdle v).stk = s.stk := rfl
@[simp] theorem State.setIdle_fiSample : (s.setIdle v).fiSample = s.fiSample := rfl
@[simp] theorem State.setIdle_pins : (s.setIdle v).pins = s.pins := rfl
@[simp] theorem State.setIdle_ints : (s.setIdle v).ints = s.ints := rfl
@[simp] theorem State.setIdle_idle : (s.setIdle v).idle = v := rfl
@[simp] theorem State.setIdle_pending : (s.setIdle v).pending = s.pending := rfl
@[simp] theorem State.setIdle_dm : (s.setIdle v).dm = s.dm := rfl
@[simp] theorem State.setIdle_pm : (s.setIdle v).pm = s.pm := rfl
@[simp] theorem State.setIdle_outputs : (s.setIdle v).outputs = s.outputs := rfl
@[simp] theorem State.setIdle_env : (s.setIdle v).env = s.env := rfl
@[simp] theorem State.setIdle_draws : (s.setIdle v).draws = s.draws := rfl
@[simp] theorem State.setIdle_params : (s.setIdle v).params = s.params := rfl
@[simp] theorem State.setIdle_setIdle (w : Bool) : (s.setIdle v).setIdle w = s.setIdle w := rfl
end setIdle

section setPending
variable (v : Word)
@[simp] theorem State.setPending_pc : (s.setPending v).pc = s.pc := rfl
@[simp] theorem State.setPending_primary : (s.setPending v).primary = s.primary := rfl
@[simp] theorem State.setPending_secondary : (s.setPending v).secondary = s.secondary := rfl
@[simp] theorem State.setPending_idx : (s.setPending v).idx = s.idx := rfl
@[simp] theorem State.setPending_mdf : (s.setPending v).mdf = s.mdf := rfl
@[simp] theorem State.setPending_len : (s.setPending v).len = s.len := rfl
@[simp] theorem State.setPending_px : (s.setPending v).px = s.px := rfl
@[simp] theorem State.setPending_cntr : (s.setPending v).cntr = s.cntr := rfl
@[simp] theorem State.setPending_astat : (s.setPending v).astat = s.astat := rfl
@[simp] theorem State.setPending_mstat : (s.setPending v).mstat = s.mstat := rfl
@[simp] theorem State.setPending_imask : (s.setPending v).imask = s.imask := rfl
@[simp] theorem State.setPending_icntl : (s.setPending v).icntl = s.icntl := rfl
@[simp] theorem State.setPending_ifc : (s.setPending v).ifc = s.ifc := rfl
@[simp] theorem State.setPending_serial : (s.setPending v).serial = s.serial := rfl
@[simp] theorem State.setPending_stk : (s.setPending v).stk = s.stk := rfl
@[simp] theorem State.setPending_fiSample : (s.setPending v).fiSample = s.fiSample := rfl
@[simp] theorem State.setPending_pins : (s.setPending v).pins = s.pins := rfl
@[simp] theorem State.setPending_ints : (s.setPending v).ints = s.ints := rfl
@[simp] theorem State.setPending_idle : (s.setPending v).idle = s.idle := rfl
@[simp] theorem State.setPending_pending : (s.setPending v).pending = v := rfl
@[simp] theorem State.setPending_dm : (s.setPending v).dm = s.dm := rfl
@[simp] theorem State.setPending_pm : (s.setPending v).pm = s.pm := rfl
@[simp] theorem State.setPending_outputs : (s.setPending v).outputs = s.outputs := rfl
@[simp] theorem State.setPending_env : (s.setPending v).env = s.env := rfl
@[simp] theorem State.setPending_draws : (s.setPending v).draws = s.draws := rfl
@[simp] theorem State.setPending_params : (s.setPending v).params = s.params := rfl
@[simp] theorem State.setPending_setPending (w : Word) : (s.setPending v).setPending w = s.setPending w := rfl
end setPending

section setDm
variable (v : Memory Word)
@[simp] theorem State.setDm_pc : (s.setDm v).pc = s.pc := rfl
@[simp] theorem State.setDm_primary : (s.setDm v).primary = s.primary := rfl
@[simp] theorem State.setDm_secondary : (s.setDm v).secondary = s.secondary := rfl
@[simp] theorem State.setDm_idx : (s.setDm v).idx = s.idx := rfl
@[simp] theorem State.setDm_mdf : (s.setDm v).mdf = s.mdf := rfl
@[simp] theorem State.setDm_len : (s.setDm v).len = s.len := rfl
@[simp] theorem State.setDm_px : (s.setDm v).px = s.px := rfl
@[simp] theorem State.setDm_cntr : (s.setDm v).cntr = s.cntr := rfl
@[simp] theorem State.setDm_astat : (s.setDm v).astat = s.astat := rfl
@[simp] theorem State.setDm_mstat : (s.setDm v).mstat = s.mstat := rfl
@[simp] theorem State.setDm_imask : (s.setDm v).imask = s.imask := rfl
@[simp] theorem State.setDm_icntl : (s.setDm v).icntl = s.icntl := rfl
@[simp] theorem State.setDm_ifc : (s.setDm v).ifc = s.ifc := rfl
@[simp] theorem State.setDm_serial : (s.setDm v).serial = s.serial := rfl
@[simp] theorem State.setDm_stk : (s.setDm v).stk = s.stk := rfl
@[simp] theorem State.setDm_fiSample : (s.setDm v).fiSample = s.fiSample := rfl
@[simp] theorem State.setDm_pins : (s.setDm v).pins = s.pins := rfl
@[simp] theorem State.setDm_ints : (s.setDm v).ints = s.ints := rfl
@[simp] theorem State.setDm_idle : (s.setDm v).idle = s.idle := rfl
@[simp] theorem State.setDm_pending : (s.setDm v).pending = s.pending := rfl
@[simp] theorem State.setDm_dm : (s.setDm v).dm = v := rfl
@[simp] theorem State.setDm_pm : (s.setDm v).pm = s.pm := rfl
@[simp] theorem State.setDm_outputs : (s.setDm v).outputs = s.outputs := rfl
@[simp] theorem State.setDm_env : (s.setDm v).env = s.env := rfl
@[simp] theorem State.setDm_draws : (s.setDm v).draws = s.draws := rfl
@[simp] theorem State.setDm_params : (s.setDm v).params = s.params := rfl
@[simp] theorem State.setDm_setDm (w : Memory Word) : (s.setDm v).setDm w = s.setDm w := rfl
end setDm

section setPm
variable (v : Memory PmCell)
@[simp] theorem State.setPm_pc : (s.setPm v).pc = s.pc := rfl
@[simp] theorem State.setPm_primary : (s.setPm v).primary = s.primary := rfl
@[simp] theorem State.setPm_secondary : (s.setPm v).secondary = s.secondary := rfl
@[simp] theorem State.setPm_idx : (s.setPm v).idx = s.idx := rfl
@[simp] theorem State.setPm_mdf : (s.setPm v).mdf = s.mdf := rfl
@[simp] theorem State.setPm_len : (s.setPm v).len = s.len := rfl
@[simp] theorem State.setPm_px : (s.setPm v).px = s.px := rfl
@[simp] theorem State.setPm_cntr : (s.setPm v).cntr = s.cntr := rfl
@[simp] theorem State.setPm_astat : (s.setPm v).astat = s.astat := rfl
@[simp] theorem State.setPm_mstat : (s.setPm v).mstat = s.mstat := rfl
@[simp] theorem State.setPm_imask : (s.setPm v).imask = s.imask := rfl
@[simp] theorem State.setPm_icntl : (s.setPm v).icntl = s.icntl := rfl
@[simp] theorem State.setPm_ifc : (s.setPm v).ifc = s.ifc := rfl
@[simp] theorem State.setPm_serial : (s.setPm v).serial = s.serial := rfl
@[simp] theorem State.setPm_stk : (s.setPm v).stk = s.stk := rfl
@[simp] theorem State.setPm_fiSample : (s.setPm v).fiSample = s.fiSample := rfl
@[simp] theorem State.setPm_pins : (s.setPm v).pins = s.pins := rfl
@[simp] theorem State.setPm_ints : (s.setPm v).ints = s.ints := rfl
@[simp] theorem State.setPm_idle : (s.setPm v).idle = s.idle := rfl
@[simp] theorem State.setPm_pending : (s.setPm v).pending = s.pending := rfl
@[simp] theorem State.setPm_dm : (s.setPm v).dm = s.dm := rfl
@[simp] theorem State.setPm_pm : (s.setPm v).pm = v := rfl
@[simp] theorem State.setPm_outputs : (s.setPm v).outputs = s.outputs := rfl
@[simp] theorem State.setPm_env : (s.setPm v).env = s.env := rfl
@[simp] theorem State.setPm_draws : (s.setPm v).draws = s.draws := rfl
@[simp] theorem State.setPm_params : (s.setPm v).params = s.params := rfl
@[simp] theorem State.setPm_setPm (w : Memory PmCell) : (s.setPm v).setPm w = s.setPm w := rfl
end setPm

section setOutputs
variable (v : List Output)
@[simp] theorem State.setOutputs_pc : (s.setOutputs v).pc = s.pc := rfl
@[simp] theorem State.setOutputs_primary : (s.setOutputs v).primary = s.primary := rfl
@[simp] theorem State.setOutputs_secondary : (s.setOutputs v).secondary = s.secondary := rfl
@[simp] theorem State.setOutputs_idx : (s.setOutputs v).idx = s.idx := rfl
@[simp] theorem State.setOutputs_mdf : (s.setOutputs v).mdf = s.mdf := rfl
@[simp] theorem State.setOutputs_len : (s.setOutputs v).len = s.len := rfl
@[simp] theorem State.setOutputs_px : (s.setOutputs v).px = s.px := rfl
@[simp] theorem State.setOutputs_cntr : (s.setOutputs v).cntr = s.cntr := rfl
@[simp] theorem State.setOutputs_astat : (s.setOutputs v).astat = s.astat := rfl
@[simp] theorem State.setOutputs_mstat : (s.setOutputs v).mstat = s.mstat := rfl
@[simp] theorem State.setOutputs_imask : (s.setOutputs v).imask = s.imask := rfl
@[simp] theorem State.setOutputs_icntl : (s.setOutputs v).icntl = s.icntl := rfl
@[simp] theorem State.setOutputs_ifc : (s.setOutputs v).ifc = s.ifc := rfl
@[simp] theorem State.setOutputs_serial : (s.setOutputs v).serial = s.serial := rfl
@[simp] theorem State.setOutputs_stk : (s.setOutputs v).stk = s.stk := rfl
@[simp] theorem State.setOutputs_fiSample : (s.setOutputs v).fiSample = s.fiSample := rfl
@[simp] theorem State.setOutputs_pins : (s.setOutputs v).pins = s.pins := rfl
@[simp] theorem State.setOutputs_ints : (s.setOutputs v).ints = s.ints := rfl
@[simp] theorem State.setOutputs_idle : (s.setOutputs v).idle = s.idle := rfl
@[simp] theorem State.setOutputs_pending : (s.setOutputs v).pending = s.pending := rfl
@[simp] theorem State.setOutputs_dm : (s.setOutputs v).dm = s.dm := rfl
@[simp] theorem State.setOutputs_pm : (s.setOutputs v).pm = s.pm := rfl
@[simp] theorem State.setOutputs_outputs : (s.setOutputs v).outputs = v := rfl
@[simp] theorem State.setOutputs_env : (s.setOutputs v).env = s.env := rfl
@[simp] theorem State.setOutputs_draws : (s.setOutputs v).draws = s.draws := rfl
@[simp] theorem State.setOutputs_params : (s.setOutputs v).params = s.params := rfl
@[simp] theorem State.setOutputs_setOutputs (w : List Output) : (s.setOutputs v).setOutputs w = s.setOutputs w := rfl
end setOutputs

section setEnv
variable (v : List (Option EnvMove))
@[simp] theorem State.setEnv_pc : (s.setEnv v).pc = s.pc := rfl
@[simp] theorem State.setEnv_primary : (s.setEnv v).primary = s.primary := rfl
@[simp] theorem State.setEnv_secondary : (s.setEnv v).secondary = s.secondary := rfl
@[simp] theorem State.setEnv_idx : (s.setEnv v).idx = s.idx := rfl
@[simp] theorem State.setEnv_mdf : (s.setEnv v).mdf = s.mdf := rfl
@[simp] theorem State.setEnv_len : (s.setEnv v).len = s.len := rfl
@[simp] theorem State.setEnv_px : (s.setEnv v).px = s.px := rfl
@[simp] theorem State.setEnv_cntr : (s.setEnv v).cntr = s.cntr := rfl
@[simp] theorem State.setEnv_astat : (s.setEnv v).astat = s.astat := rfl
@[simp] theorem State.setEnv_mstat : (s.setEnv v).mstat = s.mstat := rfl
@[simp] theorem State.setEnv_imask : (s.setEnv v).imask = s.imask := rfl
@[simp] theorem State.setEnv_icntl : (s.setEnv v).icntl = s.icntl := rfl
@[simp] theorem State.setEnv_ifc : (s.setEnv v).ifc = s.ifc := rfl
@[simp] theorem State.setEnv_serial : (s.setEnv v).serial = s.serial := rfl
@[simp] theorem State.setEnv_stk : (s.setEnv v).stk = s.stk := rfl
@[simp] theorem State.setEnv_fiSample : (s.setEnv v).fiSample = s.fiSample := rfl
@[simp] theorem State.setEnv_pins : (s.setEnv v).pins = s.pins := rfl
@[simp] theorem State.setEnv_ints : (s.setEnv v).ints = s.ints := rfl
@[simp] theorem State.setEnv_idle : (s.setEnv v).idle = s.idle := rfl
@[simp] theorem State.setEnv_pending : (s.setEnv v).pending = s.pending := rfl
@[simp] theorem State.setEnv_dm : (s.setEnv v).dm = s.dm := rfl
@[simp] theorem State.setEnv_pm : (s.setEnv v).pm = s.pm := rfl
@[simp] theorem State.setEnv_outputs : (s.setEnv v).outputs = s.outputs := rfl
@[simp] theorem State.setEnv_env : (s.setEnv v).env = v := rfl
@[simp] theorem State.setEnv_draws : (s.setEnv v).draws = s.draws := rfl
@[simp] theorem State.setEnv_params : (s.setEnv v).params = s.params := rfl
@[simp] theorem State.setEnv_setEnv (w : List (Option EnvMove)) : (s.setEnv v).setEnv w = s.setEnv w := rfl
end setEnv

section setDraws
variable (v : Nat)
@[simp] theorem State.setDraws_pc : (s.setDraws v).pc = s.pc := rfl
@[simp] theorem State.setDraws_primary : (s.setDraws v).primary = s.primary := rfl
@[simp] theorem State.setDraws_secondary : (s.setDraws v).secondary = s.secondary := rfl
@[simp] theorem State.setDraws_idx : (s.setDraws v).idx = s.idx := rfl
@[simp] theorem State.setDraws_mdf : (s.setDraws v).mdf = s.mdf := rfl
@[simp] theorem State.setDraws_len : (s.setDraws v).len = s.len := rfl
@[simp] theorem State.setDraws_px : (s.setDraws v).px = s.px := rfl
@[simp] theorem State.setDraws_cntr : (s.setDraws v).cntr = s.cntr := rfl
@[simp] theorem State.setDraws_astat : (s.setDraws v).astat = s.astat := rfl
@[simp] theorem State.setDraws_mstat : (s.setDraws v).mstat = s.mstat := rfl
@[simp] theorem State.setDraws_imask : (s.setDraws v).imask = s.imask := rfl
@[simp] theorem State.setDraws_icntl : (s.setDraws v).icntl = s.icntl := rfl
@[simp] theorem State.setDraws_ifc : (s.setDraws v).ifc = s.ifc := rfl
@[simp] theorem State.setDraws_serial : (s.setDraws v).serial = s.serial := rfl
@[simp] theorem State.setDraws_stk : (s.setDraws v).stk = s.stk := rfl
@[simp] theorem State.setDraws_fiSample : (s.setDraws v).fiSample = s.fiSample := rfl
@[simp] theorem State.setDraws_pins : (s.setDraws v).pins = s.pins := rfl
@[simp] theorem State.setDraws_ints : (s.setDraws v).ints = s.ints := rfl
@[simp] theorem State.setDraws_idle : (s.setDraws v).idle = s.idle := rfl
@[simp] theorem State.setDraws_pending : (s.setDraws v).pending = s.pending := rfl
@[simp] theorem State.setDraws_dm : (s.setDraws v).dm = s.dm := rfl
@[simp] theorem State.setDraws_pm : (s.setDraws v).pm = s.pm := rfl
@[simp] theorem State.setDraws_outputs : (s.setDraws v).outputs = s.outputs := rfl
@[simp] theorem State.setDraws_env : (s.setDraws v).env = s.env := rfl
@[simp] theorem State.setDraws_draws : (s.setDraws v).draws = v := rfl
@[simp] theorem State.setDraws_params : (s.setDraws v).params = s.params := rfl
@[simp] theorem State.setDraws_setDraws (w : Nat) : (s.setDraws v).setDraws w = s.setDraws w := rfl
end setDraws

end Sys2Proof.Machine
end

