-- ==== Sys2Proof/Laws/Memory.lean ====
section
/-! SUPPORT. Laws of the memories: a read after a write, and the canonical form that every write
keeps (spec/20_memory.md R84, R85, R95). -/

namespace Sys2Proof.Machine

variable {α : Type}

/-- A read of the address just written gives the value written. -/
theorem Memory.lookup_store_self (m : Memory α) (a : Nat) (v : α) :
    Memory.lookup (Memory.store m a v) a = some v := by
  induction m with
  | nil => simp [Memory.store, Memory.lookup]
  | cons h m ih =>
    obtain ⟨b, x⟩ := h
    simp only [Memory.store]
    split
    · simp [Memory.lookup]
    · split
      · simp [Memory.lookup]
      · rename_i hab
        simp [Memory.lookup, hab, ih]

/-- A write leaves every other address alone. -/
theorem Memory.lookup_store_other (m : Memory α) {a b : Nat} (v : α) (h : b ≠ a) :
    Memory.lookup (Memory.store m a v) b = Memory.lookup m b := by
  induction m with
  | nil => simp [Memory.store, Memory.lookup, h]
  | cons hd m ih =>
    obtain ⟨c, x⟩ := hd
    simp only [Memory.store]
    split
    · simp [Memory.lookup, h]
    · split
      · rename_i hac
        subst hac
        simp [Memory.lookup, h]
      · simp only [Memory.lookup, ih]

/-- What a written memory lists: the address written, or what was listed before. -/
theorem Memory.mem_store {m : Memory α} {a : Nat} {v : α} {x : Nat × α}
    (h : x ∈ Memory.store m a v) : x = (a, v) ∨ x ∈ m := by
  induction m with
  | nil => simpa [Memory.store] using h
  | cons hd m ih =>
    obtain ⟨b, y⟩ := hd
    simp only [Memory.store] at h
    split at h
    · simpa using h
    · split at h
      · simp only [List.mem_cons] at h ⊢
        tauto
      · simp only [List.mem_cons] at h ⊢
        rcases h with h | h
        · exact .inr (.inl h)
        · rcases ih h with h | h
          · exact .inl h
          · exact .inr (.inr h)

/-- A write of an address of the space keeps the canonical form. -/
theorem Memory.store_wf {m : Memory α} {a : Nat} (v : α) (hm : Memory.wf m) (ha : a < 2 ^ 14) :
    Memory.wf (Memory.store m a v) := by
  refine ⟨?_, fun x hx => ?_⟩
  · have hp := hm.1
    clear hm
    induction m with
    | nil => simp [Memory.store]
    | cons hd m ih =>
      obtain ⟨b, y⟩ := hd
      rw [List.pairwise_cons] at hp
      simp only [Memory.store]
      split
      · rename_i hab
        refine List.pairwise_cons.mpr ⟨fun z hz => ?_, List.pairwise_cons.mpr hp⟩
        rcases List.mem_cons.mp hz with hz | hz
        · subst hz; exact hab
        · exact Nat.lt_trans hab (hp.1 z hz)
      · split
        · rename_i hab
          subst hab
          exact List.pairwise_cons.mpr hp
        · rename_i h1 h2
          refine List.pairwise_cons.mpr ⟨fun z hz => ?_, ih hp.2⟩
          rcases Memory.mem_store hz with hz | hz
          · subst hz; show b < a; omega
          · exact hp.1 z hz
  · rcases Memory.mem_store hx with hx | hx
    · subst hx; exact ha
    · exact hm.2 x hx

/-- The memory that lists nothing is canonical. -/
theorem Memory.wf_nil : Memory.wf ([] : Memory α) := ⟨List.Pairwise.nil, by simp⟩

/-- When a DM read answers, and what (R84). -/
theorem readDm_ok {a : Addr} {s : State} {v : Word} :
    readDm a s = .ok v ↔
      regionKind s.params.dmMap a.toNat = some .ram ∧ Memory.lookup s.dm a.toNat = some v := by
  unfold readDm
  rcases h : regionKind s.params.dmMap a.toNat with _ | _ | _ <;>
    rcases h2 : Memory.lookup s.dm a.toNat with _ | _ <;> simp

/-- When a DM write answers, and what (R85). -/
theorem writeDm_ok {a : Addr} {v : Word} {s t : State} :
    writeDm a v s = .ok t ↔
      regionKind s.params.dmMap a.toNat = some .ram ∧ t = s.setDm (Memory.store s.dm a.toNat v) := by
  unfold writeDm
  rcases h : regionKind s.params.dmMap a.toNat with _ | _ | _ <;> simp [eq_comm]

/-- When PM answers a cell, and which (R84). -/
theorem readCell_ok {a : Addr} {s : State} {c : PmCell} :
    readCell a s = .ok c ↔
      regionKind s.params.pmMap a.toNat = some .ram ∧ Memory.lookup s.pm a.toNat = some c := by
  unfold readCell
  rcases h : regionKind s.params.pmMap a.toNat with _ | _ | _ <;>
    rcases h2 : Memory.lookup s.pm a.toNat with _ | _ <;> simp

/-- When a PM write answers, and what (R85). -/
theorem writeCell_ok {a : Addr} {w : PmBits} {b : Bool} {s t : State} :
    writeCell a w b s = .ok t ↔
      regionKind s.params.pmMap a.toNat = some .ram ∧
        t = s.setPm (Memory.store s.pm a.toNat (.word w b)) := by
  unfold writeCell
  rcases h : regionKind s.params.pmMap a.toNat with _ | _ | _ <;> simp [eq_comm]

/-- When a PM data read answers, and what (R84, R88). -/
theorem readPm_ok {a : Addr} {s : State} {w : PmBits} :
    readPm a s = .ok w ↔ ∃ c, readCell a s = .ok c ∧ w = cellBits c := by
  unfold readPm
  rcases readCell a s with e | c <;> simp [bind, Except.bind, eq_comm]

end Sys2Proof.Machine
end

