-- ==== Sys2Proof/Laws/Widths.lean ====
section
/-! SUPPORT. What the widths of spec/00_scope.md R6 are in numbers: the bounds of a word, an address
and a PM word, and the words of Word.lean at the ends of their ranges. -/

namespace Sys2Proof

@[simp] theorem two_pow_W : 2 ^ Config.W = 65536 := rfl
@[simp] theorem two_pow_W_pred : 2 ^ (Config.W - 1) = 32768 := rfl
@[simp] theorem two_pow_W_succ : 2 ^ (Config.W + 1) = 131072 := rfl
@[simp] theorem two_pow_SRW : 2 ^ Config.SRW = 4294967296 := rfl
@[simp] theorem two_pow_MRW : 2 ^ Config.MRW = 1099511627776 := rfl
@[simp] theorem two_pow_MRW_pred : 2 ^ (Config.MRW - 1) = 549755813888 := rfl
@[simp] theorem two_pow_AW : 2 ^ Config.AW = 16384 := rfl
@[simp] theorem two_pow_AW_pred : 2 ^ (Config.AW - 1) = 8192 := rfl
@[simp] theorem two_pow_IW : 2 ^ Config.IW = 16777216 := rfl
@[simp] theorem two_pow_MR2W : 2 ^ Config.MR2W = 256 := rfl
@[simp] theorem two_pow_MR2W_pred : 2 ^ (Config.MR2W - 1) = 128 := rfl
@[simp] theorem two_pow_SEW : 2 ^ Config.SEW = 256 := rfl
@[simp] theorem two_pow_SEW_pred : 2 ^ (Config.SEW - 1) = 128 := rfl
@[simp] theorem two_pow_SBW : 2 ^ Config.SBW = 32 := rfl
@[simp] theorem two_pow_PXW : 2 ^ Config.PXW = 256 := rfl

@[simp] theorem int_two_pow_W : (2 : Int) ^ Config.W = 65536 := rfl
@[simp] theorem int_two_pow_MRW : (2 : Int) ^ Config.MRW = 1099511627776 := rfl
@[simp] theorem int_two_pow_AW : (2 : Int) ^ Config.AW = 16384 := rfl

@[simp] theorem allOnes_W : BitVec.allOnes Config.W = 0xFFFF#16 := rfl
@[simp] theorem allOnes_AW : BitVec.allOnes Config.AW = 0x3FFF#14 := rfl
@[simp] theorem allOnes_MR2W : BitVec.allOnes Config.MR2W = 0xFF#8 := rfl
@[simp] theorem intMin_W : BitVec.intMin Config.W = 0x8000#16 := rfl
@[simp] theorem intMax_W : BitVec.intMax Config.W = 0x7FFF#16 := rfl

theorem Word.toNat_lt (w : Word) : w.toNat < 65536 := w.isLt
theorem Addr.toNat_lt (a : Addr) : a.toNat < 16384 := a.isLt
theorem PmBits.toNat_lt (w : PmBits) : w.toNat < 16777216 := w.isLt
theorem Acc.toNat_lt (r : Acc) : r.toNat < 1099511627776 := r.isLt

/-- The sign bit of a word. -/
theorem Word.msb_eq (w : Word) : w.msb = decide (32768 ≤ w.toNat) := BitVec.msb_eq_decide w

/-- The sign bit of the accumulator. -/
theorem Acc.msb_eq (r : Acc) : r.msb = decide (549755813888 ≤ r.toNat) := BitVec.msb_eq_decide r

/-- A word as a signed number. -/
theorem Word.toInt_eq (w : Word) :
    w.toInt = if 2 * w.toNat < 65536 then (w.toNat : Int) else w.toNat - 65536 :=
  BitVec.toInt_eq_toNat_cond w

/-- An address, or what an M register holds, as a signed number. -/
theorem Addr.toInt_eq (a : Addr) :
    a.toInt = if 2 * a.toNat < 16384 then (a.toNat : Int) else a.toNat - 16384 :=
  BitVec.toInt_eq_toNat_cond a

/-- The accumulator as a signed number. -/
theorem Acc.toInt_eq (r : Acc) :
    r.toInt = if 2 * r.toNat < 1099511627776 then (r.toNat : Int) else r.toNat - 1099511627776 :=
  BitVec.toInt_eq_toNat_cond r

end Sys2Proof
end

