-- ==== Sys2Proof/Laws/Ops.lean ====
section
/-! SUPPORT. For each shared operation, one lemma that says when it answers and what: outcomes,
stacks, conditions, the sequential pc and the loop-end check, interrupt entry and return. -/

namespace Sys2Proof.Machine

/-! ### Sequencing -/

/-- When a sequence of two operations answers. -/
theorem bind_ok {α β : Type} {e : Eff α} {f : α → Eff β} {b : β} :
    (e >>= f) = .ok b ↔ ∃ a, e = .ok a ∧ f a = .ok b := by
  rcases e with e | a <;> simp [bind, Except.bind]

/-- A sequence after an answer. -/
@[simp] theorem ok_bind {α β : Type} (a : α) (f : α → Eff β) :
    ((.ok a : Eff α) >>= f) = f a := rfl

/-- A sequence after a stop. -/
@[simp] theorem error_bind {α β : Type} (e : Stop) (f : α → Eff β) :
    ((.error e : Eff α) >>= f) = .error e := rfl

@[simp] theorem finish_ok (s : State) : finish (.ok s) = .next s := rfl

/-- The outcome of an operation is a next state exactly when the operation answers it. -/
theorem finish_next {e : Eff State} {t : State} : finish e = .next t ↔ e = .ok t := by
  rcases e with (_ | _) | _ <;> simp [finish]

/-- The form is there, and so is its meaning. -/
theorem needs_next {b : Bool} {r : Result} {t : State} :
    needs b r = .next t ↔ b = true ∧ r = .next t := by
  cases b <;> simp [needs]

@[simp] theorem needs_true (r : Result) : needs true r = r := rfl

/-! ### The stacks (R37) -/

theorem pushPc_ok {a : Addr} {s t : State} :
    pushPc a s = .ok t ↔
      s.stk.pc.length < s.params.pcDepth ∧ t = s.setStk { s.stk with pc := a :: s.stk.pc } := by
  unfold pushPc; split <;> simp_all [eq_comm]

theorem pushCntr_ok {a : Addr} {s t : State} :
    pushCntr a s = .ok t ↔
      s.stk.cntr.length < s.params.cntrDepth ∧
        t = s.setStk { s.stk with cntr := a :: s.stk.cntr } := by
  unfold pushCntr; split <;> simp_all [eq_comm]

theorem pushLoop_ok {e : LoopEntry} {s t : State} :
    pushLoop e s = .ok t ↔
      s.stk.loop.length < s.params.loopDepth ∧
        t = s.setStk { s.stk with loop := e :: s.stk.loop } := by
  unfold pushLoop; split <;> simp_all [eq_comm]

theorem pushSts_ok {s t : State} :
    pushSts s = .ok t ↔
      s.stk.sts.length < s.params.stsDepth ∧
        t = s.setStk { s.stk with
          sts := { astat := s.astat, mstat := s.mstat, imask := s.imask } :: s.stk.sts } := by
  unfold pushSts; split <;> simp_all [eq_comm]

theorem takePc_ok {s t : State} {a : Addr} :
    takePc s = .ok (a, t) ↔
      ∃ rest, s.stk.pc = a :: rest ∧ t = s.setStk { s.stk with pc := rest } := by
  unfold takePc
  rcases h : s.stk.pc with _ | ⟨b, rest⟩
  · simp
  · constructor
    · intro e
      injection e with e
      injection e with e1 e2
      exact ⟨rest, by rw [e1], e2.symm⟩
    · rintro ⟨r, e, rfl⟩
      injection e with e1 e2
      rw [e1, e2]

theorem dropPc_ok {s t : State} :
    dropPc s = .ok t ↔
      ∃ a rest, s.stk.pc = a :: rest ∧ t = s.setStk { s.stk with pc := rest } := by
  unfold dropPc
  rw [bind_ok]
  constructor
  · rintro ⟨⟨a, u⟩, h, e⟩
    obtain ⟨rest, h1, rfl⟩ := takePc_ok.mp h
    injection e with e
    exact ⟨a, rest, h1, e.symm⟩
  · rintro ⟨a, rest, h, rfl⟩
    exact ⟨_, takePc_ok.mpr ⟨rest, h, rfl⟩, rfl⟩

theorem dropLoop_ok {s t : State} :
    dropLoop s = .ok t ↔
      ∃ e rest, s.stk.loop = e :: rest ∧ t = s.setStk { s.stk with loop := rest } := by
  unfold dropLoop
  rcases h : s.stk.loop with _ | ⟨b, rest⟩ <;> simp [eq_comm]

theorem popCntr_ok {s t : State} :
    popCntr s = .ok t ↔
      ∃ a rest, s.stk.cntr = a :: rest ∧
        t = (s.setStk { s.stk with cntr := rest }).setCntr { value := a, loaded := true } := by
  unfold popCntr
  rcases h : s.stk.cntr with _ | ⟨b, rest⟩
  · simp
  · constructor
    · intro e
      injection e with e
      exact ⟨b, rest, rfl, e.symm⟩
    · rintro ⟨a, r, e, rfl⟩
      injection e with e1 e2
      rw [e1, e2]

theorem popSts_ok {s t : State} :
    popSts s = .ok t ↔
      ∃ e rest, s.stk.sts = e :: rest ∧
        t = (((s.setStk { s.stk with sts := rest }).setAstat e.astat).setMstat e.mstat).setImask
          e.imask := by
  unfold popSts
  rcases h : s.stk.sts with _ | ⟨b, rest⟩
  · simp
  · constructor
    · intro e
      injection e with e
      exact ⟨b, rest, rfl, e.symm⟩
    · rintro ⟨a, r, e, rfl⟩
      injection e with e1 e2
      rw [e1, e2]

/-! ### The counter and the conditions (R311, R125) -/

/-- What a counter test leaves: it counts down, brings the saved count back, or leaves a free value. -/
theorem counterTest_ok {s t : State} {b : Bool} :
    counterTest s = .ok (b, t) ↔
      s.cntr.value ≠ 0 ∧
        ((s.cntr.value ≠ 1 ∧ b = true ∧
            t = s.setCntr { s.cntr with value := s.cntr.value - 1 }) ∨
          (s.cntr.value = 1 ∧ b = false ∧ s.stk.cntr = [] ∧
            t = (s.setCntr { value := Config.freeCntr s.draws, loaded := false }).setDraws
              (s.draws + 1)) ∨
          (s.cntr.value = 1 ∧ b = false ∧ ∃ a rest, s.stk.cntr = a :: rest ∧
            t = (s.setStk { s.stk with cntr := rest }).setCntr { value := a, loaded := true })) := by
  unfold counterTest
  by_cases h2 : s.cntr.value = 0
  · rw [if_pos h2]; simp only [reduceCtorEq, h2, ne_eq, not_true, false_and]
  · rw [if_neg h2]
    by_cases h3 : s.cntr.value = 1
    · rw [if_pos h3]
      rcases h4 : s.stk.cntr with _ | ⟨a, rest⟩
      · simp only [Except.ok.injEq, Prod.mk.injEq]
        constructor
        · rintro ⟨rfl, rfl⟩
          exact ⟨h2, .inr (.inl ⟨h3, rfl, trivial, rfl⟩)⟩
        · rintro ⟨-, ⟨h, -⟩ | ⟨-, rfl, -, rfl⟩ | ⟨-, -, _, _, h, -⟩⟩
          · exact absurd h3 h
          · exact ⟨rfl, rfl⟩
          · simp at h
      · simp only [Except.ok.injEq, Prod.mk.injEq]
        constructor
        · rintro ⟨rfl, rfl⟩
          exact ⟨h2, .inr (.inr ⟨h3, rfl, a, rest, rfl, rfl⟩)⟩
        · rintro ⟨-, ⟨h, -⟩ | ⟨-, -, h, -⟩ | ⟨-, rfl, a', r', h, rfl⟩⟩
          · exact absurd h3 h
          · simp at h
          · injection h with h5 h6
            rw [h5, h6]
            exact ⟨rfl, rfl⟩
    · rw [if_neg h3]
      simp only [Except.ok.injEq, Prod.mk.injEq]
      constructor
      · rintro ⟨rfl, rfl⟩
        exact ⟨h2, .inl ⟨h3, rfl, rfl⟩⟩
      · rintro ⟨-, ⟨-, rfl, rfl⟩ | ⟨h, -⟩ | ⟨h, -⟩⟩
        · exact ⟨rfl, rfl⟩
        · exact absurd h h3
        · exact absurd h h3

/-- Evaluation of a condition that is not NOT CE changes nothing. -/
theorem evalCond_pure {c : Cond} (h : c ≠ .notCe) (s : State) :
    evalCond c s = .ok (condHolds s.astat c, s) := by simp [evalCond, h]

@[simp] theorem evalCond_always (s : State) : evalCond .always s = .ok (true, s) := rfl

theorem evalCond_notCe (s : State) : evalCond .notCe s = counterTest s := rfl

theorem ifThen_true {c : Cond} {s s1 : State} (h : evalCond c s = .ok (true, s1))
    (f : State → Eff State) : ifThen c f s = f s1 := by simp [ifThen, h]

theorem ifThen_false {c : Cond} {s s1 : State} (h : evalCond c s = .ok (false, s1))
    (f : State → Eff State) : ifThen c f s = .ok s1 := by simp [ifThen, h]

/-- When a conditional operation answers. -/
theorem ifThen_ok {c : Cond} {f : State → Eff State} {s t : State} :
    ifThen c f s = .ok t ↔
      ∃ b s1, evalCond c s = .ok (b, s1) ∧ (if b then f s1 = .ok t else t = s1) := by
  unfold ifThen
  rw [bind_ok]
  constructor
  · rintro ⟨⟨b, s1⟩, h, e⟩
    refine ⟨b, s1, h, ?_⟩
    cases b
    · simpa [eq_comm] using e
    · simpa using e
  · rintro ⟨b, s1, h, e⟩
    refine ⟨_, h, ?_⟩
    cases b
    · simpa [eq_comm] using e
    · simpa using e

/-! ### The next pc (R300, R308) -/

theorem pcNext_ok {s : State} {a : Addr} :
    pcNext s = .ok a ↔ s.pc ≠ 0x3FFF#14 ∧ a = s.pc + 1 := by
  unfold pcNext
  rw [allOnes_AW]
  by_cases h : s.pc = 0x3FFF#14
  · simp [h]
  · rw [if_neg h]
    exact ⟨fun e => ⟨h, by injection e with e; exact e.symm⟩, fun e => by rw [e.2]⟩

/-- Before the last address `pc + 1` is an address (R25). -/
theorem pcNext_of_ne {s : State} (h : s.pc ≠ 0x3FFF#14) : pcNext s = .ok (s.pc + 1) :=
  pcNext_ok.mpr ⟨h, rfl⟩

/-- At the last address it is not (R25). -/
theorem pcNext_last {s : State} (h : s.pc = 0x3FFF#14) : pcNext s = .error (.fault .pcWrap) := by
  unfold pcNext
  rw [allOnes_AW, if_pos h]

theorem atLoopEnd_iff {s : State} : atLoopEnd s = true ↔ AtLoopEnd s := by
  unfold atLoopEnd AtLoopEnd
  rcases h : s.stk.loop with _ | ⟨e, rest⟩
  · exact ⟨fun h => (Bool.false_ne_true h).elim, fun ⟨_, _, h, _⟩ => nomatch h⟩
  · constructor
    · exact fun he => ⟨e, rest, rfl, eq_of_beq he⟩
    · rintro ⟨e', rest', he, h2⟩
      injection he with h3
      subst h3
      exact beq_iff_eq.mpr h2

theorem atLoopEnd_false {s : State} : atLoopEnd s = false ↔ ¬ AtLoopEnd s := by
  rw [← atLoopEnd_iff]; simp

/-- `Straight` reads only `pc` and the loop stack. -/
theorem straight_congr {s t : State} (hp : t.pc = s.pc) (hl : t.stk.loop = s.stk.loop) :
    Straight t ↔ Straight s := by
  simp [Straight, AtLoopEnd, hp, hl]

/-- Away from a loop's end the next address is `pc + 1`. -/
theorem advance_straight {s : State} (h : Straight s) : advance s = .ok s.stepped := by
  obtain ⟨hp, hl⟩ := h
  unfold advance
  simp only [pcNext_of_ne hp, ok_bind]
  rcases hs : s.stk.loop with _ | ⟨e, rest⟩
  · rfl
  · have : e.last ≠ s.pc := fun he => hl ⟨e, rest, hs, he⟩
    simp [this, State.stepped]

theorem sequential_straight {s : State} (h : Straight s) :
    sequential (.ok s) = .next s.stepped := by
  simp [sequential, advance_straight h]

theorem sequential_next {e : Eff State} {t : State} :
    sequential e = .next t ↔ ∃ u, e = .ok u ∧ advance u = .ok t := by
  unfold sequential; rw [finish_next, bind_ok]

/-- Everything the sequential pc with the loop-end check can do. -/
theorem advance_ok {s t : State} (h : advance s = .ok t) :
    s.pc ≠ 0x3FFF#14 ∧
      ((¬ AtLoopEnd s ∧ t = s.stepped) ∨
        ∃ e rest b u, s.stk.loop = e :: rest ∧ e.last = s.pc ∧ evalTerm e.term s = .ok (b, u) ∧
          ((b = true ∧ ∃ v, dropLoop u = .ok v ∧ ∃ x, dropPc v = .ok x ∧ t = x.setPc (s.pc + 1)) ∨
            (b = false ∧ ∃ a pcs, u.stk.pc = a :: pcs ∧ t = u.setPc a))) := by
  unfold advance at h
  obtain ⟨n, hn, h⟩ := bind_ok.mp h
  obtain ⟨hp, rfl⟩ := pcNext_ok.mp hn
  refine ⟨hp, ?_⟩
  rcases hs : s.stk.loop with _ | ⟨e, rest⟩
  · rw [hs] at h
    injection h with h
    exact .inl ⟨by simp [AtLoopEnd, hs], h.symm⟩
  · rw [hs] at h
    by_cases he : e.last = s.pc
    · simp only [he, if_true] at h
      unfold closeLoop at h
      obtain ⟨⟨b, u⟩, hb, h⟩ := bind_ok.mp h
      refine .inr ⟨e, rest, b, u, rfl, he, hb, ?_⟩
      cases b
      · right
        refine ⟨rfl, ?_⟩
        simp only [Bool.false_eq_true, if_false] at h
        rcases hq : u.stk.pc with _ | ⟨a, pcs⟩
        · simp [hq] at h
        · simp only [hq] at h
          injection h with h
          exact ⟨a, pcs, rfl, h.symm⟩
      · left
        refine ⟨rfl, ?_⟩
        simp only [if_true] at h
        obtain ⟨v, hv, h⟩ := bind_ok.mp h
        obtain ⟨x, hx, h⟩ := bind_ok.mp h
        injection h with h
        exact ⟨v, hv, x, hx, h.symm⟩
    · simp only [he, if_false] at h
      injection h with h
      exact .inl ⟨fun ⟨e', r', hh, he'⟩ => by rw [hs] at hh; injection hh with h1; subst h1; exact he he',
        h.symm⟩

theorem transfer_open {s : State} (h : ¬ AtLoopEnd s) (e : Eff State) :
    transfer e s = finish e := by
  simp [transfer, atLoopEnd_false.mpr h]

theorem transfer_next {e : Eff State} {s t : State} :
    transfer e s = .next t ↔ ¬ AtLoopEnd s ∧ e = .ok t := by
  unfold transfer
  by_cases h : atLoopEnd s = true
  · simp [h, atLoopEnd_iff.mp h]
  · have h' := Bool.eq_false_iff.mpr h
    simp [h', atLoopEnd_false.mp h', finish_next]

/-! ### Interrupts (R385, R386) -/

/-- What interrupt entry leaves, and when it answers. -/
theorem takeInterrupt_ok {src : IntSource} {s t : State} :
    takeInterrupt src s = .ok t ↔
      s.stk.pc.length < s.params.pcDepth ∧ s.stk.sts.length < s.params.stsDepth ∧
        t = ((((s.setStk { s.stk with
              pc := s.pc :: s.stk.pc,
              sts := { astat := s.astat, mstat := s.mstat, imask := s.imask } :: s.stk.sts }).setImask
            (nestMask src s)).setPending
            (if isEdge s src then withBit s.pending src.bit false else s.pending)).setIdle
              false).setPc src.vector := by
  unfold takeInterrupt
  rw [bind_ok]
  constructor
  · rintro ⟨u, h1, h⟩
    obtain ⟨v, h2, h⟩ := bind_ok.mp h
    obtain ⟨h3, rfl⟩ := pushPc_ok.mp h1
    obtain ⟨h4, rfl⟩ := pushSts_ok.mp h2
    injection h with h
    exact ⟨h3, h4, h.symm⟩
  · rintro ⟨h1, h2, rfl⟩
    exact ⟨_, pushPc_ok.mpr ⟨h1, rfl⟩, bind_ok.mpr ⟨_, pushSts_ok.mpr ⟨h2, rfl⟩, rfl⟩⟩

/-- What a return from an interrupt leaves, and when it answers. -/
theorem returnFromInterrupt_ok {s t : State} :
    returnFromInterrupt s = .ok t ↔
      ∃ a pcs e rest, s.stk.pc = a :: pcs ∧ s.stk.sts = e :: rest ∧
        t = ((((s.setStk { s.stk with pc := pcs, sts := rest }).setAstat e.astat).setMstat
          e.mstat).setImask e.imask).setPc a := by
  unfold returnFromInterrupt
  rw [bind_ok]
  constructor
  · rintro ⟨⟨a, u⟩, h1, h⟩
    obtain ⟨v, h2, h⟩ := bind_ok.mp h
    obtain ⟨pcs, h3, rfl⟩ := takePc_ok.mp h1
    obtain ⟨e, rest, h4, rfl⟩ := popSts_ok.mp h2
    injection h with h
    exact ⟨a, pcs, e, rest, h3, h4, h.symm⟩
  · rintro ⟨a, pcs, e, rest, h1, h2, rfl⟩
    exact ⟨_, takePc_ok.mpr ⟨pcs, h1, rfl⟩, bind_ok.mpr ⟨_, popSts_ok.mpr ⟨e, rest, h2, rfl⟩, rfl⟩⟩

/-- A deliverable source is one of the member's, pending and unmasked, and interrupts are enabled. -/
theorem deliverable_some {s : State} {src : IntSource} (h : deliverable s = some src) :
    s.ints = true ∧ src ∈ s.params.sources ∧ s.pending.getLsbD src.bit.val = true ∧
      s.imask.getLsbD src.bit.val = true := by
  unfold deliverable at h
  by_cases hi : s.ints = true
  · simp only [hi, if_true] at h
    have h2 := List.find?_some h
    simp only [Bool.and_eq_true] at h2
    exact ⟨hi, List.mem_of_find?_eq_some h, h2.1, h2.2⟩
  · simp [hi] at h

/-! ### The fetch (R110, R100, R127) -/

/-- A word the program did not write is fetched as what it decodes to. -/
theorem fetch_word {s : State} {w : PmBits} {i : Instr}
    (hm : regionKind s.params.pmMap s.pc.toNat = some .ram)
    (hw : Memory.lookup s.pm s.pc.toNat = some (.word w false)) (hd : decode w = .ok i) :
    fetch s = .ok i := by
  have h : readCell s.pc s = .ok (.word w false) := readCell_ok.mpr ⟨hm, hw⟩
  simp [fetch, h, cellInstr, hd]

/-- A launched statement of the grammar is fetched as itself. -/
theorem fetch_stmt {s : State} {i : Instr}
    (hm : regionKind s.params.pmMap s.pc.toNat = some .ram)
    (hw : Memory.lookup s.pm s.pc.toNat = some (.stmt i)) (hi : i.inGrammar = true) :
    fetch s = .ok i := by
  have h : readCell s.pc s = .ok (.stmt i) := readCell_ok.mpr ⟨hm, hw⟩
  simp [fetch, h, cellInstr, hi]

end Sys2Proof.Machine
end

