-- ==== Sys2Proof/Laws/Operands.lean ====
section
/-! SUPPORT. What a write of the register sets leaves in every other field, single bits of the status
words and masks, what the evaluation of a condition can change, and what a MOVE's read can. -/

namespace Sys2Proof.Machine

/-! ### The value of a `constant` operand (R121) -/

@[simp] theorem constValue_pow (k : Bit) : constValue (.pow k) = bitConst k := rfl

@[simp] theorem constValue_other (v : Word) : constValue (.other v) = v := rfl

/-! ### The register sets (R39) -/

@[simp] theorem State.setBank_pc (s : State) (b : Bank) : (s.setBank b).pc = s.pc := by
  unfold State.setBank; split <;> rfl

@[simp] theorem State.setBank_idx (s : State) (b : Bank) : (s.setBank b).idx = s.idx := by
  unfold State.setBank; split <;> rfl

@[simp] theorem State.setBank_mdf (s : State) (b : Bank) : (s.setBank b).mdf = s.mdf := by
  unfold State.setBank; split <;> rfl

@[simp] theorem State.setBank_len (s : State) (b : Bank) : (s.setBank b).len = s.len := by
  unfold State.setBank; split <;> rfl

@[simp] theorem State.setBank_px (s : State) (b : Bank) : (s.setBank b).px = s.px := by
  unfold State.setBank; split <;> rfl

@[simp] theorem State.setBank_cntr (s : State) (b : Bank) : (s.setBank b).cntr = s.cntr := by
  unfold State.setBank; split <;> rfl

@[simp] theorem State.setBank_astat (s : State) (b : Bank) : (s.setBank b).astat = s.astat := by
  unfold State.setBank; split <;> rfl

@[simp] theorem State.setBank_mstat (s : State) (b : Bank) : (s.setBank b).mstat = s.mstat := by
  unfold State.setBank; split <;> rfl

@[simp] theorem State.setBank_imask (s : State) (b : Bank) : (s.setBank b).imask = s.imask := by
  unfold State.setBank; split <;> rfl

@[simp] theorem State.setBank_icntl (s : State) (b : Bank) : (s.setBank b).icntl = s.icntl := by
  unfold State.setBank; split <;> rfl

@[simp] theorem State.setBank_ifc (s : State) (b : Bank) : (s.setBank b).ifc = s.ifc := by
  unfold State.setBank; split <;> rfl

@[simp] theorem State.setBank_serial (s : State) (b : Bank) : (s.setBank b).serial = s.serial := by
  unfold State.setBank; split <;> rfl

@[simp] theorem State.setBank_stk (s : State) (b : Bank) : (s.setBank b).stk = s.stk := by
  unfold State.setBank; split <;> rfl

@[simp] theorem State.setBank_fiSample (s : State) (b : Bank) : (s.setBank b).fiSample = s.fiSample := by
  unfold State.setBank; split <;> rfl

@[simp] theorem State.setBank_pins (s : State) (b : Bank) : (s.setBank b).pins = s.pins := by
  unfold State.setBank; split <;> rfl

@[simp] theorem State.setBank_ints (s : State) (b : Bank) : (s.setBank b).ints = s.ints := by
  unfold State.setBank; split <;> rfl

@[simp] theorem State.setBank_idle (s : State) (b : Bank) : (s.setBank b).idle = s.idle := by
  unfold State.setBank; split <;> rfl

@[simp] theorem State.setBank_pending (s : State) (b : Bank) : (s.setBank b).pending = s.pending := by
  unfold State.setBank; split <;> rfl

@[simp] theorem State.setBank_dm (s : State) (b : Bank) : (s.setBank b).dm = s.dm := by
  unfold State.setBank; split <;> rfl

@[simp] theorem State.setBank_pm (s : State) (b : Bank) : (s.setBank b).pm = s.pm := by
  unfold State.setBank; split <;> rfl

@[simp] theorem State.setBank_outputs (s : State) (b : Bank) : (s.setBank b).outputs = s.outputs := by
  unfold State.setBank; split <;> rfl

@[simp] theorem State.setBank_env (s : State) (b : Bank) : (s.setBank b).env = s.env := by
  unfold State.setBank; split <;> rfl

@[simp] theorem State.setBank_draws (s : State) (b : Bank) : (s.setBank b).draws = s.draws := by
  unfold State.setBank; split <;> rfl

@[simp] theorem State.setBank_params (s : State) (b : Bank) : (s.setBank b).params = s.params := by
  unfold State.setBank; split <;> rfl

@[simp] theorem State.setBank_setAstat (s : State) (b : Bank) (v) :
    (s.setAstat v).setBank b = (s.setBank b).setAstat v := by
  unfold State.setBank State.mode; split <;> simp_all [State.setAstat, State.setPrimary, State.setSecondary]

@[simp] theorem State.setBank_setStk (s : State) (b : Bank) (v) :
    (s.setStk v).setBank b = (s.setBank b).setStk v := by
  unfold State.setBank State.mode; split <;> simp_all [State.setStk, State.setPrimary, State.setSecondary]

@[simp] theorem State.setBank_setImask (s : State) (b : Bank) (v) :
    (s.setImask v).setBank b = (s.setBank b).setImask v := by
  unfold State.setBank State.mode; split <;> simp_all [State.setImask, State.setPrimary, State.setSecondary]

@[simp] theorem State.setBank_setPc (s : State) (b : Bank) (v) :
    (s.setPc v).setBank b = (s.setBank b).setPc v := by
  unfold State.setBank State.mode; split <;> simp_all [State.setPc, State.setPrimary, State.setSecondary]

@[simp] theorem State.setBank_setDm (s : State) (b : Bank) (v) :
    (s.setDm v).setBank b = (s.setBank b).setDm v := by
  unfold State.setBank State.mode; split <;> simp_all [State.setDm, State.setPrimary, State.setSecondary]

@[simp] theorem State.setBank_setPm (s : State) (b : Bank) (v) :
    (s.setPm v).setBank b = (s.setBank b).setPm v := by
  unfold State.setBank State.mode; split <;> simp_all [State.setPm, State.setPrimary, State.setSecondary]

@[simp] theorem State.setBank_setIdx (s : State) (b : Bank) (v) :
    (s.setIdx v).setBank b = (s.setBank b).setIdx v := by
  unfold State.setBank State.mode; split <;> simp_all [State.setIdx, State.setPrimary, State.setSecondary]

@[simp] theorem State.setBank_setCntr (s : State) (b : Bank) (v) :
    (s.setCntr v).setBank b = (s.setBank b).setCntr v := by
  unfold State.setBank State.mode; split <;> simp_all [State.setCntr, State.setPrimary, State.setSecondary]

@[simp] theorem State.setBank_setDraws (s : State) (b : Bank) (v) :
    (s.setDraws v).setBank b = (s.setBank b).setDraws v := by
  unfold State.setBank State.mode; split <;> simp_all [State.setDraws, State.setPrimary, State.setSecondary]

@[simp] theorem State.setBank_setSerial (s : State) (b : Bank) (v) :
    (s.setSerial v).setBank b = (s.setBank b).setSerial v := by
  unfold State.setBank State.mode; split <;> simp_all [State.setSerial, State.setPrimary, State.setSecondary]

@[simp] theorem State.setBank_setOutputs (s : State) (b : Bank) (v) :
    (s.setOutputs v).setBank b = (s.setBank b).setOutputs v := by
  unfold State.setBank State.mode; split <;> simp_all [State.setOutputs, State.setPrimary, State.setSecondary]

@[simp] theorem State.setBank_setPending (s : State) (b : Bank) (v) :
    (s.setPending v).setBank b = (s.setBank b).setPending v := by
  unfold State.setBank State.mode; split <;> simp_all [State.setPending, State.setPrimary, State.setSecondary]

@[simp] theorem State.setBank_setPx (s : State) (b : Bank) (v) :
    (s.setPx v).setBank b = (s.setBank b).setPx v := by
  unfold State.setBank State.mode; split <;> simp_all [State.setPx, State.setPrimary, State.setSecondary]

/-- The register set read back is the one written. -/
@[simp] theorem State.bank_setBank (s : State) (b : Bank) : (s.setBank b).bank = b := by
  unfold State.bank State.mode; rw [State.setBank_mstat]
  unfold State.setBank State.mode; split <;> rfl

/-- A write of the selected register set leaves the other one (R39). -/
theorem State.setBank_other (s : State) (b : Bank) :
    (s.mode .secReg = false → (s.setBank b).secondary = s.secondary) ∧
      (s.mode .secReg = true → (s.setBank b).primary = s.primary) := by
  unfold State.setBank
  exact ⟨fun h => by simp [h], fun h => by simp [h]⟩

@[simp] theorem wrD_pc (d : DReg) (v : Word) (s : State) : (wrD d v s).pc = s.pc := by
  simp [wrD]

@[simp] theorem wrD_idx (d : DReg) (v : Word) (s : State) : (wrD d v s).idx = s.idx := by
  simp [wrD]

@[simp] theorem wrD_mdf (d : DReg) (v : Word) (s : State) : (wrD d v s).mdf = s.mdf := by
  simp [wrD]

@[simp] theorem wrD_len (d : DReg) (v : Word) (s : State) : (wrD d v s).len = s.len := by
  simp [wrD]

@[simp] theorem wrD_px (d : DReg) (v : Word) (s : State) : (wrD d v s).px = s.px := by
  simp [wrD]

@[simp] theorem wrD_cntr (d : DReg) (v : Word) (s : State) : (wrD d v s).cntr = s.cntr := by
  simp [wrD]

@[simp] theorem wrD_astat (d : DReg) (v : Word) (s : State) : (wrD d v s).astat = s.astat := by
  simp [wrD]

@[simp] theorem wrD_mstat (d : DReg) (v : Word) (s : State) : (wrD d v s).mstat = s.mstat := by
  simp [wrD]

@[simp] theorem wrD_imask (d : DReg) (v : Word) (s : State) : (wrD d v s).imask = s.imask := by
  simp [wrD]

@[simp] theorem wrD_icntl (d : DReg) (v : Word) (s : State) : (wrD d v s).icntl = s.icntl := by
  simp [wrD]

@[simp] theorem wrD_ifc (d : DReg) (v : Word) (s : State) : (wrD d v s).ifc = s.ifc := by
  simp [wrD]

@[simp] theorem wrD_serial (d : DReg) (v : Word) (s : State) : (wrD d v s).serial = s.serial := by
  simp [wrD]

@[simp] theorem wrD_stk (d : DReg) (v : Word) (s : State) : (wrD d v s).stk = s.stk := by
  simp [wrD]

@[simp] theorem wrD_fiSample (d : DReg) (v : Word) (s : State) : (wrD d v s).fiSample = s.fiSample := by
  simp [wrD]

@[simp] theorem wrD_pins (d : DReg) (v : Word) (s : State) : (wrD d v s).pins = s.pins := by
  simp [wrD]

@[simp] theorem wrD_ints (d : DReg) (v : Word) (s : State) : (wrD d v s).ints = s.ints := by
  simp [wrD]

@[simp] theorem wrD_idle (d : DReg) (v : Word) (s : State) : (wrD d v s).idle = s.idle := by
  simp [wrD]

@[simp] theorem wrD_pending (d : DReg) (v : Word) (s : State) : (wrD d v s).pending = s.pending := by
  simp [wrD]

@[simp] theorem wrD_dm (d : DReg) (v : Word) (s : State) : (wrD d v s).dm = s.dm := by
  simp [wrD]

@[simp] theorem wrD_pm (d : DReg) (v : Word) (s : State) : (wrD d v s).pm = s.pm := by
  simp [wrD]

@[simp] theorem wrD_outputs (d : DReg) (v : Word) (s : State) : (wrD d v s).outputs = s.outputs := by
  simp [wrD]

@[simp] theorem wrD_env (d : DReg) (v : Word) (s : State) : (wrD d v s).env = s.env := by
  simp [wrD]

@[simp] theorem wrD_draws (d : DReg) (v : Word) (s : State) : (wrD d v s).draws = s.draws := by
  simp [wrD]

@[simp] theorem wrD_params (d : DReg) (v : Word) (s : State) : (wrD d v s).params = s.params := by
  simp [wrD]

/-! ### Bits -/

/-- A mask with bit `k` replaced, bit by bit. -/
theorem getLsbD_withBit (m : Word) (k j : Fin 16) (b : Bool) :
    (withBit m k b).getLsbD j.val = if j = k then b else m.getLsbD j.val := by
  have hk := k.isLt
  have hj := j.isLt
  have e : ((1 : Word) <<< k.val).getLsbD j.val = decide (j = k) := by
    simp only [BitVec.getLsbD_shiftLeft]
    rw [Bool.eq_iff_iff]
    simp
    omega
  have e2 : (~~~((1 : Word) <<< k.val)).getLsbD j.val = !decide (j = k) := by
    rw [BitVec.getLsbD_not, e]; simp [hj]
  unfold withBit
  cases b
  · simp only [Bool.false_eq_true, if_false, BitVec.getLsbD_and, e2]
    by_cases h : j = k <;> simp [h]
  · simp only [if_true, BitVec.getLsbD_or, e]
    by_cases h : j = k <;> simp [h]

/-- The low bits of a value, bit by bit. -/
theorem getLsbD_lowBits (n : Nat) (v : Word) (k : Nat) (hk : k < 16) :
    (lowBits n v).getLsbD k = (decide (k < n) && v.getLsbD k) := by
  unfold lowBits
  rw [BitVec.getLsbD_and, BitVec.getLsbD_ofNat, Nat.testBit_two_pow_sub_one]
  simp [hk, Bool.and_comm]

/-- A bit of a word of one bit. -/
theorem getLsbD_oneHot {n : Nat} (k j : Nat) (h : j < n) :
    (1#n <<< k).getLsbD j = decide (j = k) := by
  rw [BitVec.getLsbD_shiftLeft, BitVec.getLsbD_one, Bool.eq_iff_iff]
  simp only [h, decide_true, Bool.true_and, Bool.and_eq_true, Bool.not_eq_true', decide_eq_false_iff_not,
    decide_eq_true_eq]
  omega

/-- A flag replaced leaves every other flag. -/
theorem flagOf_withFlag (a : BitVec 8) (f g : Flag) (b : Bool) :
    flagOf (withFlag a f b) g = if g = f then b else flagOf a g := by
  have hg : g.bit < 8 := by cases g <;> decide
  have e : (g.bit = f.bit) = (g = f) := by cases g <;> cases f <;> decide
  unfold flagOf withFlag
  cases b
  · simp only [Bool.false_eq_true, if_false, BitVec.getLsbD_and, BitVec.getLsbD_not, hg, e,
      getLsbD_oneHot _ _ hg]
    by_cases h : g = f <;> simp [h]
  · simp only [if_true, BitVec.getLsbD_or, e, getLsbD_oneHot _ _ hg]
    by_cases h : g = f <;> simp [h]

/-- A mode replaced leaves every other mode. -/
theorem getLsbD_withMode (a : BitVec 7) (m n : Mode) (b : Bool) :
    (withMode a m b).getLsbD (modeBit n) = if n = m then b else a.getLsbD (modeBit n) := by
  have hg : modeBit n < 7 := by cases n <;> decide
  have e : (modeBit n = modeBit m) = (n = m) := by cases n <;> cases m <;> decide
  unfold withMode
  cases b
  · simp only [Bool.false_eq_true, if_false, BitVec.getLsbD_and, BitVec.getLsbD_not, hg, e,
      getLsbD_oneHot _ _ hg]
    by_cases h : n = m <;> simp [h]
  · simp only [if_true, BitVec.getLsbD_or, e, getLsbD_oneHot _ _ hg]
    by_cases h : n = m <;> simp [h]

/-! ### What an evaluation can change (R124, R311) -/

/-- The fields that no condition's evaluation changes: all but CNTR, the counter stack, `draws`. -/
structure SameButCounter (s t : State) : Prop where
  pc : t.pc = s.pc
  primary : t.primary = s.primary
  secondary : t.secondary = s.secondary
  idx : t.idx = s.idx
  mdf : t.mdf = s.mdf
  len : t.len = s.len
  px : t.px = s.px
  astat : t.astat = s.astat
  mstat : t.mstat = s.mstat
  imask : t.imask = s.imask
  icntl : t.icntl = s.icntl
  ifc : t.ifc = s.ifc
  serial : t.serial = s.serial
  pcStack : t.stk.pc = s.stk.pc
  loopStack : t.stk.loop = s.stk.loop
  stsStack : t.stk.sts = s.stk.sts
  cntrStack : t.stk.cntr.length ≤ s.stk.cntr.length
  fiSample : t.fiSample = s.fiSample
  pins : t.pins = s.pins
  ints : t.ints = s.ints
  idle : t.idle = s.idle
  pending : t.pending = s.pending
  dm : t.dm = s.dm
  pm : t.pm = s.pm
  outputs : t.outputs = s.outputs
  env : t.env = s.env
  params : t.params = s.params

/-- A counter test changes only the counter. -/
theorem counterTest_same {s t : State} {b : Bool} (h : counterTest s = .ok (b, t)) :
    SameButCounter s t := by
  obtain ⟨-, h⟩ := counterTest_ok.mp h
  rcases h with ⟨-, -, rfl⟩ | ⟨-, -, -, rfl⟩ | ⟨-, -, a, rest, hh, rfl⟩ <;>
    constructor <;> simp_all

/-- An IF condition's evaluation changes only the counter. -/
theorem evalCond_same {c : Cond} {s t : State} {b : Bool} (h : evalCond c s = .ok (b, t)) :
    SameButCounter s t := by
  by_cases hc : c = .notCe
  · subst hc; exact counterTest_same h
  · rw [evalCond_pure hc] at h
    injection h with h
    injection h with h1 h2
    subst h2
    constructor <;> rfl

/-- A termination's evaluation changes only the counter. -/
theorem evalTerm_same {x : Term} {s t : State} {b : Bool} (h : evalTerm x s = .ok (b, t)) :
    SameButCounter s t := by
  have same : ∀ v, (Except.ok (v, s) : Eff (Bool × State)) = .ok (b, t) → SameButCounter s t := by
    intro v h
    injection h with h
    injection h with h1 h2
    subst h2
    constructor <;> rfl
  cases x
  case ce =>
    obtain ⟨⟨v, u⟩, h1, h2⟩ := bind_ok.mp h
    injection h2 with h2
    injection h2 with h3 h4
    subst h4
    exact counterTest_same h1
  all_goals exact same _ h

/-- A MOVE's read changes at most `draws` (R281, R36). -/
theorem readReg_same {r : Reg} {v : Word} {s t : State} (h : readReg r s = .ok (v, t)) :
    t = s ∨ t = s.setDraws (s.draws + 1) := by
  cases r <;> simp only [readReg, readRx, reduceCtorEq, Except.ok.injEq, Prod.mk.injEq] at h <;>
    first | exact .inl h.2.symm | exact .inr h.2.symm

/-- What a load from DM leaves (R284). -/
theorem loadDm_ok {d : DReg} {p : Pair} {s t : State} :
    loadDm d p s = .ok t ↔ ∃ v, readDm (dmEa p s) s = .ok v ∧ t = wrD d v (postModify p s) := by
  unfold loadDm; rw [bind_ok]; simp [eq_comm]

/-- What a store to DM leaves (R285, R286). -/
theorem storeDm_ok {p : Pair} {v : Word} {s t : State} :
    storeDm p v s = .ok t ↔ ∃ u, writeDm (dmEa p s) v s = .ok u ∧ t = postModify p u := by
  unfold storeDm; rw [bind_ok]; simp [eq_comm]

/-- What a load from PM leaves (R289). -/
theorem loadPm_ok {d : DReg} {p : Pair} {s t : State} :
    loadPm d p s = .ok t ↔ ∃ w, readPm (pmEa p s) s = .ok w ∧ t = takePmWord d w (postModify p s) := by
  unfold loadPm; rw [bind_ok]; simp [eq_comm]

/-- What a store to PM leaves (R290). -/
theorem storePm_ok {p : Pair} {v : Word} {s t : State} :
    storePm p v s = .ok t ↔ ∃ u, writePm (pmEa p s) (v ++ s.px) s = .ok u ∧ t = postModify p u := by
  unfold storePm; rw [bind_ok]; simp [eq_comm]

end Sys2Proof.Machine
end

