-- ==== Sys2Proof/Laws/Families.lean ====
section
/-! SUPPORT. What each shared operation of the instruction families leaves, and when it answers: the
ALU, MAC and Shifter forms under a condition, the control transfers, the clauses of the
multifunction instructions, the stack clauses, the assignment to CNTR, the masks of interrupt entry. -/

namespace Sys2Proof.Machine

/-! ### The register sets -/

@[simp] theorem State.setBank_setBank (s : State) (b c : Bank) :
    (s.setBank b).setBank c = s.setBank c := by
  unfold State.setBank State.mode; split <;> simp_all

@[simp] theorem State.bank_setPc (s : State) (v) : (s.setPc v).bank = s.bank := rfl
@[simp] theorem State.bank_setIdx (s : State) (v) : (s.setIdx v).bank = s.bank := rfl
@[simp] theorem State.bank_setPx (s : State) (v) : (s.setPx v).bank = s.bank := rfl
@[simp] theorem State.bank_setDm (s : State) (v) : (s.setDm v).bank = s.bank := rfl
@[simp] theorem State.bank_setPm (s : State) (v) : (s.setPm v).bank = s.bank := rfl
@[simp] theorem State.bank_setAstat (s : State) (v) : (s.setAstat v).bank = s.bank := rfl
@[simp] theorem State.bank_setCntr (s : State) (v) : (s.setCntr v).bank = s.bank := rfl
@[simp] theorem State.bank_setStk (s : State) (v) : (s.setStk v).bank = s.bank := rfl
@[simp] theorem State.bank_setDraws (s : State) (v) : (s.setDraws v).bank = s.bank := rfl

/-- A mode is read from MSTAT alone. -/
theorem State.mode_congr {s t : State} (h : t.mstat = s.mstat) (m : Mode) : t.mode m = s.mode m := by
  unfold State.mode; rw [h]

/-! ### The computation units (R170, R220, R250) -/

/-- The 17-bit sum as a number (R172). -/
theorem aluSum_toNat (a b : Word) (cin : Bool) :
    (aluSum a b cin).toNat = a.toNat + b.toNat + cin.toNat := by
  unfold aluSum
  have := Word.toNat_lt a
  have := Word.toNat_lt b
  cases cin <;> simp [BitVec.toNat_add] <;> omega

@[simp] theorem writeAlu_pc (z : AluDest) (o : AluOut) (s : State) : (writeAlu z o s).pc = s.pc := by
  cases z <;> simp [writeAlu]

@[simp] theorem writeAlu_stk (z : AluDest) (o : AluOut) (s : State) :
    (writeAlu z o s).stk = s.stk := by
  cases z <;> simp [writeAlu]

@[simp] theorem writeAlu_astat (z : AluDest) (o : AluOut) (s : State) :
    (writeAlu z o s).astat = o.astat := by
  cases z <;> simp [writeAlu]

@[simp] theorem writeMac_pc (z : MacDest) (r : Acc) (s : State) : (writeMac z r s).pc = s.pc := by
  cases z <;> simp [writeMac]

@[simp] theorem writeMac_stk (z : MacDest) (r : Acc) (s : State) : (writeMac z r s).stk = s.stk := by
  cases z <;> simp [writeMac]

@[simp] theorem writeMac_astat (z : MacDest) (r : Acc) (s : State) :
    (writeMac z r s).astat = macAstat s r := by
  cases z <;> simp [writeMac]

@[simp] theorem evalShift_pc (f : ShiftFn) (s t : State) : (evalShift f s t).pc = t.pc := by
  cases f <;> simp [evalShift, writeSr]

@[simp] theorem evalShift_stk (f : ShiftFn) (s t : State) : (evalShift f s t).stk = t.stk := by
  cases f <;> simp [evalShift, writeSr]

/-- A state from which the sequential pc is the next address stays one through a condition. -/
theorem straight_evalCond {c : Cond} {b : Bool} {s s1 : State} (h : evalCond c s = .ok (b, s1))
    (hs : Straight s) : Straight s1 :=
  (straight_congr (evalCond_same h).pc (evalCond_same h).loopStack).mpr hs

/-- An effect that keeps `pc` and the loop stack is followed by `pc + 1`. -/
theorem sequential_ok {s t : State} (hs : Straight s) (hp : t.pc = s.pc)
    (hl : t.stk.loop = s.stk.loop) : sequential (.ok t) = .next t.stepped :=
  sequential_straight ((straight_congr hp hl).mpr hs)

/-- An ALU form whose condition holds (R170). -/
theorem aluIf_taken {c : Cond} {s s1 : State} (h : evalCond c s = .ok (true, s1)) (hs : Straight s)
    (z : AluDest) (f : State → AluOut) : aluIf c z f s = .next (writeAlu z (f s1) s1).stepped := by
  unfold aluIf
  rw [ifThen_true h]
  exact sequential_ok (straight_evalCond h hs) (by simp) (by simp)

/-- A MAC form whose condition holds (R220). -/
theorem macIf_taken {c : Cond} {s s1 : State} (h : evalCond c s = .ok (true, s1)) (hs : Straight s)
    (z : MacDest) (f : State → Acc) : macIf c z f s = .next (writeMac z (f s1) s1).stepped := by
  unfold macIf
  rw [ifThen_true h]
  exact sequential_ok (straight_evalCond h hs) (by simp) (by simp)

/-- A form with a constant: the member has the forms and the constant (R121). -/
theorem aluConstIf_eq {k : Word} {s : State} (hc : s.params.hasAluConstants = true)
    (hk : k ∈ s.params.aluConstants) (c : Cond) (z : AluDest) (f : State → AluOut) :
    aluConstIf k c z f s = aluIf c z f s := by
  unfold aluConstIf
  rw [hc, needs_true, if_pos hk]

/-- A constant outside the member's set is no instruction (R121). -/
theorem aluConstIf_outside {k : Word} {s : State} (hc : s.params.hasAluConstants = true)
    (hk : k ∉ s.params.aluConstants) (c : Cond) (z : AluDest) (f : State → AluOut) :
    aluConstIf k c z f s = .refused .notAnInstruction := by
  unfold aluConstIf
  rw [hc, needs_true, if_neg hk]

/-- When a form with a constant has a next state (R121). -/
theorem aluConstIf_next {k : Word} {c : Cond} {z : AluDest} {f : State → AluOut} {s t : State} :
    aluConstIf k c z f s = .next t ↔
      s.params.hasAluConstants = true ∧ k ∈ s.params.aluConstants ∧ aluIf c z f s = .next t := by
  unfold aluConstIf
  rw [needs_next]
  by_cases hk : k ∈ s.params.aluConstants <;> simp [hk]

/-- When a bit operation or PASS 0 has a next state (R182, R186). -/
theorem aluOptionIf_next {c : Cond} {z : AluDest} {f : State → AluOut} {s t : State} :
    aluOptionIf c z f s = .next t ↔
      s.params.hasAluConstants = true ∧ aluIf c z f s = .next t := needs_next

/-- A Shifter form whose condition holds (R250). -/
theorem shiftIf_taken {c : Cond} {s s1 : State} (h : evalCond c s = .ok (true, s1))
    (hs : Straight s) (f : ShiftFn) :
    shiftIf c (evalShift f) s = .next (evalShift f s1 s1).stepped := by
  unfold shiftIf
  rw [ifThen_true h]
  exact sequential_ok (straight_evalCond h hs) (by simp) (by simp)

/-- The instruction of an ALU expression runs that expression (R150). -/
theorem exec_aluInstr (f : AluFn) (z : AluDest) (c : Cond) (s : State) :
    exec (f.instr z c) s = aluIf c z (evalAlu f) s := by cases f <;> rfl

/-- The halves of SR after an OR into it (R250). -/
theorem Bank.withSr_or (b : Bank) (r : BitVec Config.SRW) :
    b.withSr (b.sr ||| r) =
      { b with sr1 := b.sr1 ||| r.extractLsb' Config.W Config.W, sr0 := b.sr0 ||| r.extractLsb' 0 Config.W } := by
  have h1 : BitVec.extractLsb' Config.W Config.W (b.sr ||| r) = b.sr1 ||| r.extractLsb' Config.W Config.W := by
    apply BitVec.eq_of_getLsbD_eq
    intro i hi
    simp only [Bank.sr, BitVec.getLsbD_extractLsb', BitVec.getLsbD_or, BitVec.getLsbD_append]
    simp [hi, show ¬ (Config.W + i < Config.W) by omega]
  have h0 : BitVec.extractLsb' 0 Config.W (b.sr ||| r) = b.sr0 ||| r.extractLsb' 0 Config.W := by
    apply BitVec.eq_of_getLsbD_eq
    intro i hi
    simp only [Bank.sr, BitVec.getLsbD_extractLsb', BitVec.getLsbD_or, BitVec.getLsbD_append]
    simp [hi]
  unfold Bank.withSr
  rw [h1, h0]

/-! ### Control transfers (R300 to R309) -/

theorem fallThrough_ok {s t : State} :
    fallThrough s = .ok t ↔ s.pc ≠ 0x3FFF#14 ∧ t = s.stepped := by
  unfold fallThrough
  rw [bind_ok]
  constructor
  · rintro ⟨n, h, e⟩
    obtain ⟨hp, rfl⟩ := pcNext_ok.mp h
    injection e with e
    exact ⟨hp, e.symm⟩
  · rintro ⟨hp, rfl⟩
    exact ⟨_, pcNext_ok.mpr ⟨hp, rfl⟩, rfl⟩

/-- When a conditional transfer answers: its effect, or the following address (R300). -/
theorem takeIf_ok {c : Cond} {f : State → Eff State} {s t : State} :
    takeIf c f s = .ok t ↔ ∃ b s1, evalCond c s = .ok (b, s1) ∧
      (if b then f s1 = .ok t else s1.pc ≠ 0x3FFF#14 ∧ t = s1.stepped) := by
  unfold takeIf
  rw [bind_ok]
  constructor
  · rintro ⟨⟨b, s1⟩, h, e⟩
    refine ⟨b, s1, h, ?_⟩
    cases b
    · exact fallThrough_ok.mp e
    · exact e
  · rintro ⟨b, s1, h, e⟩
    refine ⟨⟨b, s1⟩, h, ?_⟩
    cases b
    · exact fallThrough_ok.mpr e
    · exact e

/-- When a transfer on the FI pin answers (R302, R304). -/
theorem takeIfFlag_ok {n : Bool} {f : State → Eff State} {s t : State} :
    takeIfFlag n f s = .ok t ↔
      (Config.fiSample s.draws ^^ n) = true ∧ f (sampleFi s) = .ok t ∨
        (Config.fiSample s.draws ^^ n) = false ∧ s.pc ≠ 0x3FFF#14 ∧ t = (sampleFi s).stepped := by
  unfold takeIfFlag
  cases h : Config.fiSample s.draws ^^ n
  · rw [if_neg Bool.false_ne_true, fallThrough_ok]; simp [sampleFi]
  · rw [if_pos rfl]; simp

/-- What a CALL leaves (R303). -/
theorem callTo_ok {a : Addr} {s t : State} :
    callTo a s = .ok t ↔ s.pc ≠ 0x3FFF#14 ∧ s.stk.pc.length < s.params.pcDepth ∧
      t = (s.setStk { s.stk with pc := (s.pc + 1) :: s.stk.pc }).setPc a := by
  unfold callTo
  rw [bind_ok]
  constructor
  · rintro ⟨n, h, e⟩
    obtain ⟨hp, rfl⟩ := pcNext_ok.mp h
    obtain ⟨u, h2, e⟩ := bind_ok.mp e
    obtain ⟨h3, rfl⟩ := pushPc_ok.mp h2
    injection e with e
    exact ⟨hp, h3, e.symm⟩
  · rintro ⟨hp, hd, rfl⟩
    exact ⟨_, pcNext_ok.mpr ⟨hp, rfl⟩, bind_ok.mpr ⟨_, pushPc_ok.mpr ⟨hd, rfl⟩, rfl⟩⟩

/-- What an RTS leaves (R305). -/
theorem returnFromCall_ok {s t : State} :
    returnFromCall s = .ok t ↔
      ∃ a pcs, s.stk.pc = a :: pcs ∧ t = (s.setStk { s.stk with pc := pcs }).setPc a := by
  unfold returnFromCall
  rw [bind_ok]
  constructor
  · rintro ⟨⟨a, u⟩, h, e⟩
    obtain ⟨pcs, h2, rfl⟩ := takePc_ok.mp h
    injection e with e
    exact ⟨a, pcs, h2, e.symm⟩
  · rintro ⟨a, pcs, h, rfl⟩
    exact ⟨_, takePc_ok.mpr ⟨pcs, h, rfl⟩, rfl⟩

/-- What a DO leaves, and when it answers (R307, R308). -/
theorem startLoop_ok {a : Addr} {x : Term} {s t : State} :
    startLoop a x s = .ok t ↔
      s.pc.toNat < a.toNat ∧ (∀ e ∈ s.stk.loop, e.last ≠ a) ∧ s.pc ≠ 0x3FFF#14 ∧
        s.stk.pc.length < s.params.pcDepth ∧ s.stk.loop.length < s.params.loopDepth ∧
        t = (s.setStk { s.stk with
          pc := (s.pc + 1) :: s.stk.pc, loop := ⟨a, x⟩ :: s.stk.loop }).stepped := by
  unfold startLoop
  by_cases h1 : a.toNat ≤ s.pc.toNat
  · rw [if_pos h1]
    exact ⟨(by intro e; cases e), fun e => absurd e.1 (by omega)⟩
  rw [if_neg h1]
  by_cases h2 : s.stk.loop.any (fun e => e.last == a) = true
  · rw [if_pos h2]
    obtain ⟨e, h3, h4⟩ := List.any_eq_true.mp h2
    exact ⟨(by intro e; cases e), fun h => absurd (eq_of_beq h4) (h.2.1 e h3)⟩
  rw [if_neg h2, bind_ok]
  have h3 : ∀ e ∈ s.stk.loop, e.last ≠ a := fun e he hh =>
    h2 (List.any_eq_true.mpr ⟨e, he, by simp [hh]⟩)
  constructor
  · rintro ⟨n, h, e⟩
    obtain ⟨hp, rfl⟩ := pcNext_ok.mp h
    obtain ⟨u, h4, e⟩ := bind_ok.mp e
    obtain ⟨v, h5, e⟩ := bind_ok.mp e
    obtain ⟨h6, rfl⟩ := pushPc_ok.mp h4
    obtain ⟨h7, rfl⟩ := pushLoop_ok.mp h5
    injection e with e
    exact ⟨by omega, h3, hp, h6, h7, e.symm⟩
  · rintro ⟨-, -, hp, h6, h7, rfl⟩
    exact ⟨_, pcNext_ok.mpr ⟨hp, rfl⟩, bind_ok.mpr ⟨_, pushPc_ok.mpr ⟨h6, rfl⟩,
      bind_ok.mpr ⟨_, pushLoop_ok.mpr ⟨h7, rfl⟩, rfl⟩⟩⟩

/-- What an IDLE leaves (R309). -/
theorem goIdle_ok {s t : State} :
    goIdle s = .ok t ↔ s.pc ≠ 0x3FFF#14 ∧ t = s.stepped.setIdle true := by
  unfold goIdle
  rw [bind_ok]
  constructor
  · rintro ⟨n, h, e⟩
    obtain ⟨hp, rfl⟩ := pcNext_ok.mp h
    injection e with e
    exact ⟨hp, e.symm⟩
  · rintro ⟨hp, rfl⟩
    exact ⟨_, pcNext_ok.mpr ⟨hp, rfl⟩, rfl⟩

/-! ### Moves and clauses (R280, R151, R341) -/

/-- What an assignment to CNTR leaves (R291 (b)). -/
theorem writeCntr_ok {v : Addr} {s t : State} :
    writeCntr v s = .ok t ↔
      s.cntr.loaded = false ∧ t = s.setCntr { value := v, loaded := true } ∨
        s.cntr.loaded = true ∧ s.stk.cntr.length < s.params.cntrDepth ∧
          t = (s.setStk { s.stk with cntr := s.cntr.value :: s.stk.cntr }).setCntr
            { value := v, loaded := true } := by
  unfold writeCntr
  cases h : s.cntr.loaded
  · simp [eq_comm]
  · rw [if_pos rfl, bind_ok]
    simp only [Bool.true_eq_false, false_and, false_or, true_and]
    constructor
    · rintro ⟨u, h2, e⟩
      obtain ⟨h3, rfl⟩ := pushCntr_ok.mp h2
      injection e with e
      exact ⟨h3, e.symm⟩
    · rintro ⟨h3, rfl⟩
      exact ⟨_, pushCntr_ok.mpr ⟨h3, rfl⟩, rfl⟩

/-- What the moves with a clause leave (R151). -/
theorem withClause_ok {w : State → State} {m : State → Eff State} {s t : State} :
    withClause w m s = .ok t ↔ ∃ u, m s = .ok u ∧ t = w u := by
  unfold withClause; rw [bind_ok]; simp [eq_comm]

/-- What the two reads leave (R152, R153). -/
theorem twoReads_ok {d : XDual} {p : Pair} {e : YDual} {q : Pair} {s t : State} :
    twoReads d p e q s = .ok t ↔ ∃ w v, readPm (pmEa q s) s = .ok w ∧ readDm (dmEa p s) s = .ok v ∧
      t = takePmWord (yDualReg e) w (wrD (xDualReg d) v (postModify q (postModify p s))) := by
  unfold twoReads
  simp only [bind_ok, Except.ok.injEq]
  constructor
  · rintro ⟨w, h1, v, h2, h3⟩; exact ⟨w, v, h1, h2, h3.symm⟩
  · rintro ⟨w, v, h1, h2, h3⟩; exact ⟨w, h1, v, h2, h3.symm⟩

/-- A clause that is asked for, or none (R341). -/
theorem optionally_ok {b : Bool} {f : State → Eff State} {s t : State} :
    optionally b f s = .ok t ↔ (if b then f s = .ok t else t = s) := by
  cases b <;> simp [optionally, eq_comm]

/-- The order in which the stack clauses act; they act on four different stacks (R341). -/
theorem stackOps_ok {o : StackOps} {s t : State} :
    stackOps o s = .ok t ↔ ∃ u v w, stsOp o.sts s = .ok u ∧ optionally o.cntr popCntr u = .ok v ∧
      optionally o.pc dropPc v = .ok w ∧ optionally o.loop dropLoop w = .ok t := by
  unfold stackOps
  simp only [bind_ok]
  constructor
  · rintro ⟨u, h1, v, h2, w, h3, h4⟩; exact ⟨u, v, w, h1, h2, h3, h4⟩
  · rintro ⟨u, v, w, h1, h2, h3, h4⟩; exact ⟨u, h1, v, h2, w, h3, h4⟩

/-- A form that two clauses make clash has no next state (R160). -/
theorem unlessClash_next {writes : DReg → Bool} {d : DReg} {r : Result} {t : State} :
    unlessClash writes d r = .next t ↔ writes d = false ∧ r = .next t := by
  unfold unlessClash
  cases writes d <;> simp

/-! ### The masks of interrupt entry (R385) -/

/-- A bit of no source in the list stays. -/
theorem getLsbD_clearBits_other (l : List IntSource) (m : Word) (k : Fin 16)
    (h : ∀ x ∈ l, x.bit ≠ k) : (clearBits l m).getLsbD k.val = m.getLsbD k.val := by
  induction l generalizing m with
  | nil => rfl
  | cons x l ih =>
    unfold clearBits
    rw [ih _ (fun y hy => h y (by simp [hy])), getLsbD_withBit,
      if_neg (fun e => h x (by simp) e.symm)]

/-- The bit of every source in the list is cleared. -/
theorem getLsbD_clearBits_mem (l : List IntSource) (m : Word) (k : Fin 16)
    (h : ∃ x ∈ l, x.bit = k) : (clearBits l m).getLsbD k.val = false := by
  induction l generalizing m with
  | nil => simp at h
  | cons y l ih =>
    unfold clearBits
    by_cases hl : ∃ x ∈ l, x.bit = k
    · exact ih _ hl
    · rw [getLsbD_clearBits_other _ _ _ (fun z hz e => hl ⟨z, hz, e⟩), getLsbD_withBit]
      obtain ⟨x, hx, e⟩ := h
      rcases List.mem_cons.mp hx with rfl | hx
      · simp [e]
      · exact absurd ⟨x, hx, e⟩ hl

/-- The pending bit of no source in the list stays, in a write of IFC (R383). -/
theorem getLsbD_ifcPending_other (w : Word) (s : State) (l : List IntSource) (p : Word)
    (k : Fin 16) (h : ∀ x ∈ l, x.bit ≠ k) :
    (ifcPending w s l p).getLsbD k.val = p.getLsbD k.val := by
  induction l generalizing p with
  | nil => rfl
  | cons x l ih =>
    have hx : k ≠ x.bit := fun e => h x (by simp) e.symm
    unfold ifcPending
    rw [ih _ (fun y hy => h y (by simp [hy]))]
    split
    · rcases optBit w x.force <;> rcases optBit w x.clear <;>
        simp only [getLsbD_withBit, hx, if_false]
    · rfl

/-! ### Writes of PM from outside the core (R97, R100) -/

/-- An address is one the program wrote exactly where its word is so marked (R85). -/
theorem programWrote_iff {a : Addr} {s : State} :
    programWrote a s = true ↔ ∃ x, Memory.lookup s.pm a.toNat = some (.word x true) := by
  unfold programWrote
  rcases Memory.lookup s.pm a.toNat with _ | ⟨w, b⟩ | i <;> simp

/-- When an outside write of PM answers, and what: the mark stays (R100). -/
theorem writePmOutside_ok {a : Addr} {w : PmBits} {s t : State} :
    writePmOutside a w s = .ok t ↔
      regionKind s.params.pmMap a.toNat = some .ram ∧
        t = s.setPm (Memory.store s.pm a.toNat (.word w (programWrote a s))) := writeCell_ok

end Sys2Proof.Machine
end

