-- ==== Sys2Proof/Laws/PerInstr.lean ====
section
/-! SUPPORT. One lemma for every constructor of `Instr`: the word of a
well-formed instruction has 24 bits
(spec/30_encoding.md R110, R129). -/

namespace Sys2Proof.Laws

/-! ### The codes fit their fields (R130) -/

theorem xAlu_code_lt (x : XAlu) : x.code < 8 := by cases x <;> decide
theorem xMac_code_lt (x : XMac) : x.code < 8 := by cases x <;> decide
theorem xShift_code_lt (x : XShift) : x.code < 8 := by cases x <;> decide
theorem yAlu_code_lt (y : YAlu) : y.code < 4 := by cases y <;> decide
theorem yMac_code_lt (y : YMac) : y.code < 4 := by cases y <;> decide
theorem xDual_code_lt (x : XDual) : x.code < 4 := by cases x <;> decide
theorem yDual_code_lt (y : YDual) : y.code < 4 := by cases y <;> decide
theorem dReg_code_lt (d : DReg) : d.code < 16 := by cases d <;> decide
theorem cond_code_lt (c : Cond) : c.code < 16 := by cases c <;> decide
theorem term_code_lt (t : Term) : t.code < 16 := by cases t <;> decide
theorem aluDest_code_lt (a : AluDest) : a.code < 2 := by cases a <;> decide
theorem macDest_code_lt (m : MacDest) : m.code < 2 := by cases m <;> decide
theorem idleDiv_code_lt (i : IdleDiv) : i.code < 16 := by cases i <;> decide
theorem flagOp_code_lt (f : FlagOp) : f.code < 4 := by cases f <;> decide
theorem half_code_lt (h : Half) : h.code < 2 := by cases h <;> decide
theorem switch_code_lt (s : Switch) : s.code < 4 := by cases s <;> decide
theorem bitCode_lt (b : Bool) : bitCode b < 2 := by cases b <;> decide
theorem shiftKind_code_lt (n : ShiftKind) : n.code ≤ 8 := by cases n <;> decide
theorem stsCode_lt (o : Option StsOp) : stsCode o < 4 := by
  rcases o with _ | _ | _ <;> decide

theorem reg_code_lt (r : Reg) : r.code.1 < 4 ∧ r.code.2 < 16 := by
  cases r with
  | dreg d => exact ⟨Nat.zero_lt_succ 3, dReg_code_lt d⟩
  | i n => revert n; decide
  | m n => revert n; decide
  | l n => revert n; decide
  | _ => decide

theorem aluFn_code_lt (f : AluFn) : f.code.1 < 32 ∧ f.code.2.1 < 4 ∧ f.code.2.2 < 8 := by
  cases f <;> refine ⟨?_, ?_, ?_⟩ <;>
    first
    | exact xAlu_code_lt _
    | exact yAlu_code_lt _
    | exact Nat.le_of_ble_eq_true rfl

theorem macCode_lt (n : MacKind) (m : MacMod) : macCode n m < 32 := by
  cases n <;> cases m <;> decide

theorem macFn_code_lt {f : MacFn} {q : Nat × Nat × Nat} (h : f.code = some q) :
    q.1 < 32 ∧ q.2.1 < 4 ∧ q.2.2 < 8 := by
  cases f with
  | prod n m x y => cases h; exact ⟨macCode_lt n m, yMac_code_lt y, xMac_code_lt x⟩
  | square n m x => cases h
  | zero => cases h; decide
  | mr => cases h; decide
  | mrRnd => cases h; decide

theorem shiftFn_code_lt (f : ShiftFn) : f.code.1 < 16 ∧ f.code.2 < 8 := by
  cases f with
  | shift n o h x => cases n <;> cases o <;> cases h <;> cases x <;> decide
  | exp n x => cases n <;> cases x <;> decide
  | expadj x => cases x <;> decide

theorem low_lt (p : Pair) : p.low < 16 ∧ p.g < 2 := by
  obtain ⟨i, m⟩ := p
  revert i m; decide

/-! ### The parts of a word -/

theorem word9_lt {z amf y x low c : Nat} (hz : z < 2) (ha : amf < 32) (hy : y < 4) (hx : x < 8)
    (hl : low < 16) (hc : c < 16) : word9 z amf y x low c < 2 ^ 24 := by
  unfold word9; omega

theorem aluWord_lt (z : AluDest) (c : Cond) (f : AluFn) : AluFn.word z c f < 2 ^ 24 :=
  have h := aluFn_code_lt f
  word9_lt (aluDest_code_lt z) h.1 h.2.1 h.2.2 (by decide) (cond_code_lt c)

theorem macWord_lt {z : MacDest} {c : Cond} {f : MacFn} {w : Nat} (h : MacFn.word z c f = some w) :
    w < 2 ^ 24 := by
  obtain ⟨q, hq, rfl⟩ := Option.map_eq_some_iff.mp h
  have h := macFn_code_lt hq
  exact word9_lt (macDest_code_lt z) h.1 h.2.1 h.2.2 (by decide) (cond_code_lt c)

theorem constWord_lt {amf bo x : Nat} (z : AluDest) (k : Bit) (c : Cond) (ha : amf < 32)
    (hb : bo < 4) (hx : x < 8) : constWord amf bo z x k c < 2 ^ 24 := by
  have := k.isLt
  exact word9_lt (aluDest_code_lt z) ha (by omega) hx (by omega) (cond_code_lt c)

theorem powWord_lt {amf x w : Nat} {z : AluDest} {k : Constant} {c : Cond} (ha : amf < 32) (hx : x < 8)
    (h : powWord amf z x k c = some w) : w < 2 ^ 24 := by
  cases k with
  | pow k => cases h; exact constWord_lt z k c ha (by decide) hx
  | other v => cases h

theorem shiftWord_lt (c : Cond) (f : ShiftFn) : ShiftFn.word c f < 2 ^ 24 := by
  have := shiftFn_code_lt f
  have := cond_code_lt c
  unfold ShiftFn.word; omega

theorem compBits_lt {o : Comp} {b : Nat} (h : o.bits = some b) : b < 2 ^ 19 := by
  obtain ⟨q, hq, rfl⟩ := Option.map_eq_some_iff.mp h
  have key : q.1 < 2 ∧ q.2.1 < 32 ∧ q.2.2.1 < 4 ∧ q.2.2.2 < 8 := by
    cases o with
    | alu f z => cases hq; exact ⟨aluDest_code_lt z, aluFn_code_lt f⟩
    | mac f z =>
      obtain ⟨p, hp, rfl⟩ := Option.map_eq_some_iff.mp hq
      exact ⟨macDest_code_lt z, macFn_code_lt hp⟩
  omega

theorem shiftBits_lt (f : ShiftFn) : f.bits < 2 ^ 15 := by
  have := shiftFn_code_lt f
  unfold ShiftFn.bits; omega

theorem lowByte_lt (d : DReg) (p : Pair) : lowByte d p < 256 := by
  have := dReg_code_lt d
  have := low_lt p
  unfold lowByte; omega

theorem word4_lt {d : Nat} (p : Pair) (r : DReg) (hd : d < 2) : word4 p d r < 2 ^ 24 - 2 ^ 19 := by
  have := low_lt p
  have := lowByte_lt r p
  unfold word4; omega

theorem word5_lt {d : Nat} (p : Pair) (r : DReg) (hd : d < 2) : word5 p d r < 2 ^ 24 - 2 ^ 19 := by
  have := lowByte_lt r p
  unfold word5; omega

theorem word12_lt {d : Nat} (p : Pair) (r : DReg) (f : ShiftFn) (hd : d < 2) :
    word12 p d r f < 2 ^ 24 := by
  have := low_lt p
  have := lowByte_lt r p
  have := shiftBits_lt f
  unfold word12; omega

theorem word13_lt {d : Nat} (p : Pair) (r : DReg) (f : ShiftFn) (hd : d < 2) :
    word13 p d r f < 2 ^ 24 := by
  have := lowByte_lt r p
  have := shiftBits_lt f
  unfold word13; omega

/-- The bits of a clause without the feedback destination leave bit 18 free. -/
theorem compBits_lt_18 {o : Comp} {b : Nat} (hf : o.notFeedback = true) (h : o.bits = some b) :
    b + 256 ≤ 2 ^ 18 := by
  obtain ⟨q, hq, rfl⟩ := Option.map_eq_some_iff.mp h
  have key : q.1 = 0 ∧ q.2.1 < 32 ∧ q.2.2.1 < 4 ∧ q.2.2.2 < 8 := by
    cases o with
    | alu f z =>
      cases z
      · cases hq; exact ⟨rfl, aluFn_code_lt f⟩
      · cases hf
    | mac f z =>
      cases z
      · obtain ⟨p, hp, rfl⟩ := Option.map_eq_some_iff.mp hq
        exact ⟨rfl, macFn_code_lt hp⟩
      · cases hf
  omega

theorem word1_lt (d : XDual) (p : Pair) (e : YDual) (q : Pair) {b : Nat} (hb : b + 256 ≤ 2 ^ 18) :
    word1 d p e q + b < 2 ^ 24 := by
  have := low_lt p
  have := low_lt q
  have := xDual_code_lt d
  have := yDual_code_lt e
  unfold word1; omega

theorem word15_lt (n : ShiftKind) (o : Bool) (x : XShift) (e : Exp8) (h : Half) :
    word15 n o x e h < 2 ^ 24 := by
  have := shiftKind_code_lt n
  have := half_code_lt h
  have := bitCode_lt o
  have := xShift_code_lt x
  have := e.isLt
  unfold word15; omega

theorem word18_lt (o : ModeOps) : word18 o < 2 ^ 24 := by
  have := switch_code_lt o.timer
  have := switch_code_lt o.mMode
  have := switch_code_lt o.arSat
  have := switch_code_lt o.avLatch
  have := switch_code_lt o.bitRev
  have := switch_code_lt o.secReg
  have := switch_code_lt o.gMode
  unfold word18; omega

theorem word26_lt (o : StackOps) : word26 o < 2 ^ 24 := by
  have := bitCode_lt o.pc
  have := bitCode_lt o.loop
  have := bitCode_lt o.cntr
  have := stsCode_lt o.sts
  unfold word26; omega

theorem word27_lt {call : Nat} (n : Bool) (a : Addr) (hc : call < 2) : word27 n a call < 2 ^ 24 := by
  have := bitCode_lt (!n)
  have := Addr.toNat_lt a
  unfold word27; omega

/-! ### Every instruction -/

namespace WordFits

/-- The word of a well-formed instruction, where it has one, has 24 bits. -/
def Statement (i : Instr) : Prop :=
  i.wellFormed = true → ∀ w, encodeNat i = some w → w < 2 ^ 24

theorem addXY (z : AluDest) (x : XAlu) (y : YAlu) (c : Cond) :
    Statement (.addXY z x y c) := by
  intro _ w h; cases h; exact aluWord_lt _ _ _

theorem addXC (z : AluDest) (x : XAlu) (c : Cond) :
    Statement (.addXC z x c) := by
  intro _ w h; cases h; exact aluWord_lt _ _ _

theorem addXYC (z : AluDest) (x : XAlu) (y : YAlu) (c : Cond) :
    Statement (.addXYC z x y c) := by
  intro _ w h; cases h; exact aluWord_lt _ _ _

theorem addXK (z : AluDest) (x : XAlu) (k : Constant) (c : Cond) :
    Statement (.addXK z x k c) := by
  intro _ w h; exact powWord_lt (by decide) (xAlu_code_lt x) h

theorem addXKC (z : AluDest) (x : XAlu) (k : Constant) (c : Cond) :
    Statement (.addXKC z x k c) := by
  intro _ w h; exact powWord_lt (by decide) (xAlu_code_lt x) h

theorem addXNK (z : AluDest) (x : XAlu) (k : Bit) (c : Cond) :
    Statement (.addXNK z x k c) := by
  intro _ w h; cases h; exact constWord_lt z k c (by decide) (by decide) (xAlu_code_lt x)

theorem addXNKC (z : AluDest) (x : XAlu) (k : Bit) (c : Cond) :
    Statement (.addXNKC z x k c) := by
  intro _ w h; cases h; exact constWord_lt z k c (by decide) (by decide) (xAlu_code_lt x)

theorem subXY (z : AluDest) (x : XAlu) (y : YAlu) (c : Cond) :
    Statement (.subXY z x y c) := by
  intro _ w h; cases h; exact aluWord_lt _ _ _

theorem subXYC (z : AluDest) (x : XAlu) (y : YAlu) (c : Cond) :
    Statement (.subXYC z x y c) := by
  intro _ w h; cases h; exact aluWord_lt _ _ _

theorem subXC (z : AluDest) (x : XAlu) (c : Cond) :
    Statement (.subXC z x c) := by
  intro _ w h; cases h; exact aluWord_lt _ _ _

theorem subXK (z : AluDest) (x : XAlu) (k : Constant) (c : Cond) :
    Statement (.subXK z x k c) := by
  intro _ w h; exact powWord_lt (by decide) (xAlu_code_lt x) h

theorem subXKC (z : AluDest) (x : XAlu) (k : Constant) (c : Cond) :
    Statement (.subXKC z x k c) := by
  intro _ w h; exact powWord_lt (by decide) (xAlu_code_lt x) h

theorem subXNK (z : AluDest) (x : XAlu) (k : Bit) (c : Cond) :
    Statement (.subXNK z x k c) := by
  intro _ w h; cases h; exact constWord_lt z k c (by decide) (by decide) (xAlu_code_lt x)

theorem subXNKC (z : AluDest) (x : XAlu) (k : Bit) (c : Cond) :
    Statement (.subXNKC z x k c) := by
  intro _ w h; cases h; exact constWord_lt z k c (by decide) (by decide) (xAlu_code_lt x)

theorem subYX (z : AluDest) (x : XAlu) (y : YAlu) (c : Cond) :
    Statement (.subYX z x y c) := by
  intro _ w h; cases h; exact aluWord_lt _ _ _

theorem subYXC (z : AluDest) (x : XAlu) (y : YAlu) (c : Cond) :
    Statement (.subYXC z x y c) := by
  intro _ w h; cases h; exact aluWord_lt _ _ _

theorem negXC (z : AluDest) (x : XAlu) (c : Cond) :
    Statement (.negXC z x c) := by
  intro _ w h; cases h; exact aluWord_lt _ _ _

theorem subKX (z : AluDest) (x : XAlu) (k : Constant) (c : Cond) :
    Statement (.subKX z x k c) := by
  intro _ w h; exact powWord_lt (by decide) (xAlu_code_lt x) h

theorem subKXC (z : AluDest) (x : XAlu) (k : Constant) (c : Cond) :
    Statement (.subKXC z x k c) := by
  intro _ w h; exact powWord_lt (by decide) (xAlu_code_lt x) h

theorem subNKX (z : AluDest) (x : XAlu) (k : Bit) (c : Cond) :
    Statement (.subNKX z x k c) := by
  intro _ w h; cases h; exact constWord_lt z k c (by decide) (by decide) (xAlu_code_lt x)

theorem subNKXC (z : AluDest) (x : XAlu) (k : Bit) (c : Cond) :
    Statement (.subNKXC z x k c) := by
  intro _ w h; cases h; exact constWord_lt z k c (by decide) (by decide) (xAlu_code_lt x)

theorem andXY (z : AluDest) (x : XAlu) (y : YAlu) (c : Cond) :
    Statement (.andXY z x y c) := by
  intro _ w h; cases h; exact aluWord_lt _ _ _

theorem andXK (z : AluDest) (x : XAlu) (k : Constant) (c : Cond) :
    Statement (.andXK z x k c) := by
  intro _ w h; exact powWord_lt (by decide) (xAlu_code_lt x) h

theorem andXNK (z : AluDest) (x : XAlu) (k : Bit) (c : Cond) :
    Statement (.andXNK z x k c) := by
  intro _ w h; cases h; exact constWord_lt z k c (by decide) (by decide) (xAlu_code_lt x)

theorem orXY (z : AluDest) (x : XAlu) (y : YAlu) (c : Cond) :
    Statement (.orXY z x y c) := by
  intro _ w h; cases h; exact aluWord_lt _ _ _

theorem orXK (z : AluDest) (x : XAlu) (k : Constant) (c : Cond) :
    Statement (.orXK z x k c) := by
  intro _ w h; exact powWord_lt (by decide) (xAlu_code_lt x) h

theorem orXNK (z : AluDest) (x : XAlu) (k : Bit) (c : Cond) :
    Statement (.orXNK z x k c) := by
  intro _ w h; cases h; exact constWord_lt z k c (by decide) (by decide) (xAlu_code_lt x)

theorem xorXY (z : AluDest) (x : XAlu) (y : YAlu) (c : Cond) :
    Statement (.xorXY z x y c) := by
  intro _ w h; cases h; exact aluWord_lt _ _ _

theorem xorXK (z : AluDest) (x : XAlu) (k : Constant) (c : Cond) :
    Statement (.xorXK z x k c) := by
  intro _ w h; exact powWord_lt (by decide) (xAlu_code_lt x) h

theorem xorXNK (z : AluDest) (x : XAlu) (k : Bit) (c : Cond) :
    Statement (.xorXNK z x k c) := by
  intro _ w h; cases h; exact constWord_lt z k c (by decide) (by decide) (xAlu_code_lt x)

theorem tstbit (z : AluDest) (x : XAlu) (k : Bit) (c : Cond) :
    Statement (.tstbit z x k c) := by
  intro _ w h; cases h; exact constWord_lt z k c (by decide) (by decide) (xAlu_code_lt x)

theorem setbit (z : AluDest) (x : XAlu) (k : Bit) (c : Cond) :
    Statement (.setbit z x k c) := by
  intro _ w h; cases h; exact constWord_lt z k c (by decide) (by decide) (xAlu_code_lt x)

theorem clrbit (z : AluDest) (x : XAlu) (k : Bit) (c : Cond) :
    Statement (.clrbit z x k c) := by
  intro _ w h; cases h; exact constWord_lt z k c (by decide) (by decide) (xAlu_code_lt x)

theorem tglbit (z : AluDest) (x : XAlu) (k : Bit) (c : Cond) :
    Statement (.tglbit z x k c) := by
  intro _ w h; cases h; exact constWord_lt z k c (by decide) (by decide) (xAlu_code_lt x)

theorem passX (z : AluDest) (x : XAlu) (c : Cond) :
    Statement (.passX z x c) := by
  intro _ w h; cases h; exact aluWord_lt _ _ _

theorem passY (z : AluDest) (y : YAlu) (c : Cond) :
    Statement (.passY z y c) := by
  intro _ w h; cases h; exact aluWord_lt _ _ _

theorem pass0 (z : AluDest) (c : Cond) :
    Statement (.pass0 z c) := by
  intro _ w h; cases h; exact word9_lt (aluDest_code_lt z) (by decide) (by decide) (by decide) (by decide) (cond_code_lt c)

theorem pass1 (z : AluDest) (c : Cond) :
    Statement (.pass1 z c) := by
  intro _ w h; cases h; exact word9_lt (aluDest_code_lt z) (by decide) (by decide) (by decide) (by decide) (cond_code_lt c)

theorem passM1 (z : AluDest) (c : Cond) :
    Statement (.passM1 z c) := by
  intro _ w h; cases h; exact word9_lt (aluDest_code_lt z) (by decide) (by decide) (by decide) (by decide) (cond_code_lt c)

theorem passK (z : AluDest) (k : Constant) (c : Cond) :
    Statement (.passK z k c) := by
  intro _ w h; exact powWord_lt (by decide) (by decide) h

theorem passNK (z : AluDest) (k : Bit) (c : Cond) :
    Statement (.passNK z k c) := by
  intro _ w h; cases h; exact constWord_lt z k c (by decide) (by decide) (by decide)

theorem negX (z : AluDest) (x : XAlu) (c : Cond) :
    Statement (.negX z x c) := by
  intro _ w h; cases h; exact aluWord_lt _ _ _

theorem negY (z : AluDest) (y : YAlu) (c : Cond) :
    Statement (.negY z y c) := by
  intro _ w h; cases h; exact aluWord_lt _ _ _

theorem notX (z : AluDest) (x : XAlu) (c : Cond) :
    Statement (.notX z x c) := by
  intro _ w h; cases h; exact aluWord_lt _ _ _

theorem notY (z : AluDest) (y : YAlu) (c : Cond) :
    Statement (.notY z y c) := by
  intro _ w h; cases h; exact aluWord_lt _ _ _

theorem absX (z : AluDest) (x : XAlu) (c : Cond) :
    Statement (.absX z x c) := by
  intro _ w h; cases h; exact aluWord_lt _ _ _

theorem incY (z : AluDest) (y : YAlu) (c : Cond) :
    Statement (.incY z y c) := by
  intro _ w h; cases h; exact aluWord_lt _ _ _

theorem decY (z : AluDest) (y : YAlu) (c : Cond) :
    Statement (.decY z y c) := by
  intro _ w h; cases h; exact aluWord_lt _ _ _

theorem divs (y : YAlu) (x : XAlu) :
    Statement (.divs y x) := by
  intro _ w h; cases h
  have := yAlu_code_lt y
  have := xAlu_code_lt x
  omega

theorem divq (x : XAlu) :
    Statement (.divq x) := by
  intro _ w h; cases h
  have := xAlu_code_lt x
  omega

theorem noneAlu (f : AluFn) :
    Statement (.noneAlu f) := by
  intro _ w h; cases h

theorem mulRnd (z : MacDest) (x : XMac) (y : YMac) (c : Cond) :
    Statement (.mulRnd z x y c) := by
  intro _ w h; exact macWord_lt h

theorem mulSs (z : MacDest) (x : XMac) (y : YMac) (c : Cond) :
    Statement (.mulSs z x y c) := by
  intro _ w h; exact macWord_lt h

theorem mulSu (z : MacDest) (x : XMac) (y : YMac) (c : Cond) :
    Statement (.mulSu z x y c) := by
  intro _ w h; exact macWord_lt h

theorem mulUs (z : MacDest) (x : XMac) (y : YMac) (c : Cond) :
    Statement (.mulUs z x y c) := by
  intro _ w h; exact macWord_lt h

theorem mulUu (z : MacDest) (x : XMac) (y : YMac) (c : Cond) :
    Statement (.mulUu z x y c) := by
  intro _ w h; exact macWord_lt h

theorem macRnd (z : MacDest) (x : XMac) (y : YMac) (c : Cond) :
    Statement (.macRnd z x y c) := by
  intro _ w h; exact macWord_lt h

theorem macSs (z : MacDest) (x : XMac) (y : YMac) (c : Cond) :
    Statement (.macSs z x y c) := by
  intro _ w h; exact macWord_lt h

theorem macSu (z : MacDest) (x : XMac) (y : YMac) (c : Cond) :
    Statement (.macSu z x y c) := by
  intro _ w h; exact macWord_lt h

theorem macUs (z : MacDest) (x : XMac) (y : YMac) (c : Cond) :
    Statement (.macUs z x y c) := by
  intro _ w h; exact macWord_lt h

theorem macUu (z : MacDest) (x : XMac) (y : YMac) (c : Cond) :
    Statement (.macUu z x y c) := by
  intro _ w h; exact macWord_lt h

theorem msubRnd (z : MacDest) (x : XMac) (y : YMac) (c : Cond) :
    Statement (.msubRnd z x y c) := by
  intro _ w h; exact macWord_lt h

theorem msubSs (z : MacDest) (x : XMac) (y : YMac) (c : Cond) :
    Statement (.msubSs z x y c) := by
  intro _ w h; exact macWord_lt h

theorem msubSu (z : MacDest) (x : XMac) (y : YMac) (c : Cond) :
    Statement (.msubSu z x y c) := by
  intro _ w h; exact macWord_lt h

theorem msubUs (z : MacDest) (x : XMac) (y : YMac) (c : Cond) :
    Statement (.msubUs z x y c) := by
  intro _ w h; exact macWord_lt h

theorem msubUu (z : MacDest) (x : XMac) (y : YMac) (c : Cond) :
    Statement (.msubUu z x y c) := by
  intro _ w h; exact macWord_lt h

theorem square (z : MacDest) (n : MacKind) (m : MacMod) (x : XMac) (c : Cond) :
    Statement (.square z n m x c) := by
  intro _ w h; cases h

theorem mrZero (z : MacDest) (c : Cond) :
    Statement (.mrZero z c) := by
  intro _ w h; exact macWord_lt h

theorem mrMr (z : MacDest) (c : Cond) :
    Statement (.mrMr z c) := by
  intro _ w h; exact macWord_lt h

theorem mrMrRnd (z : MacDest) (c : Cond) :
    Statement (.mrMrRnd z c) := by
  intro _ w h; exact macWord_lt h

theorem satMr : Statement .satMr := by
  intro _ w h; cases h; decide

theorem ashift (o : Bool) (x : XShift) (h : Half) (c : Cond) :
    Statement (.ashift o x h c) := by
  intro _ w h; cases h; exact shiftWord_lt _ _

theorem lshift (o : Bool) (x : XShift) (h : Half) (c : Cond) :
    Statement (.lshift o x h c) := by
  intro _ w h; cases h; exact shiftWord_lt _ _

theorem norm (o : Bool) (x : XShift) (h : Half) (c : Cond) :
    Statement (.norm o x h c) := by
  intro _ w h; cases h; exact shiftWord_lt _ _

theorem expHi (x : XShift) (c : Cond) :
    Statement (.expHi x c) := by
  intro _ w h; cases h; exact shiftWord_lt _ _

theorem expHix (x : XShift) (c : Cond) :
    Statement (.expHix x c) := by
  intro _ w h; cases h; exact shiftWord_lt _ _

theorem expLo (x : XShift) (c : Cond) :
    Statement (.expLo x c) := by
  intro _ w h; cases h; exact shiftWord_lt _ _

theorem expadj (x : XShift) (c : Cond) :
    Statement (.expadj x c) := by
  intro _ w h; cases h; exact shiftWord_lt _ _

theorem ashiftImm (o : Bool) (x : XShift) (e : Exp8) (h : Half) :
    Statement (.ashiftImm o x e h) := by
  intro _ w h; cases h; exact word15_lt _ _ _ _ _

theorem lshiftImm (o : Bool) (x : XShift) (e : Exp8) (h : Half) :
    Statement (.lshiftImm o x e h) := by
  intro _ w h; cases h; exact word15_lt _ _ _ _ _

theorem regReg (d : Reg) (r : Reg) :
    Statement (.regReg d r) := by
  intro _ w h; cases h
  have := reg_code_lt d
  have := reg_code_lt r
  omega

theorem regDmAddr (d : Reg) (a : Addr) :
    Statement (.regDmAddr d a) := by
  intro _ w h; cases h
  have := reg_code_lt d
  have := Addr.toNat_lt a
  omega

theorem dregDm (d : DReg) (p : Pair) :
    Statement (.dregDm d p) := by
  intro _ w h; cases h; have := word4_lt (d := 0) p d (by decide); omega

theorem dmDreg (p : Pair) (r : DReg) :
    Statement (.dmDreg p r) := by
  intro _ w h; cases h; have := word4_lt (d := 1) p r (by decide); omega

theorem dmData (p : Pair) (v : Word) :
    Statement (.dmData p v) := by
  intro _ w h; cases h
  have := low_lt p
  have := Word.toNat_lt v
  omega

theorem dmAddrReg (a : Addr) (r : Reg) :
    Statement (.dmAddrReg a r) := by
  intro _ w h; cases h
  have := Addr.toNat_lt a
  have := reg_code_lt r
  omega

theorem dregData (d : DReg) (v : Word) :
    Statement (.dregData d v) := by
  intro _ w h; cases h
  have := dReg_code_lt d
  have := Word.toNat_lt v
  omega

theorem regData (d : Reg) (v : Addr) :
    Statement (.regData d v) := by
  intro _ w h; cases h
  have := reg_code_lt d
  have := Addr.toNat_lt v
  omega

theorem dregPm (d : DReg) (p : Pair) :
    Statement (.dregPm d p) := by
  intro _ w h; cases h; have := word5_lt (d := 0) p d (by decide); omega

theorem pmDreg (p : Pair) (r : DReg) :
    Statement (.pmDreg p r) := by
  intro _ w h; cases h; have := word5_lt (d := 1) p r (by decide); omega

theorem jumpAddr (a : Addr) (c : Cond) :
    Statement (.jumpAddr a c) := by
  intro _ w h; cases h
  have := Addr.toNat_lt a
  have := cond_code_lt c
  omega

theorem jumpInd (i : DagIdx) (c : Cond) :
    Statement (.jumpInd i c) := by
  intro _ w h; cases h
  have := i.isLt
  have := cond_code_lt c
  omega

theorem jumpFlag (n : Bool) (a : Addr) :
    Statement (.jumpFlag n a) := by
  intro _ w h; cases h; exact word27_lt _ _ (by decide)

theorem callAddr (a : Addr) (c : Cond) :
    Statement (.callAddr a c) := by
  intro _ w h; cases h
  have := Addr.toNat_lt a
  have := cond_code_lt c
  omega

theorem callInd (i : DagIdx) (c : Cond) :
    Statement (.callInd i c) := by
  intro _ w h; cases h
  have := i.isLt
  have := cond_code_lt c
  omega

theorem callFlag (n : Bool) (a : Addr) :
    Statement (.callFlag n a) := by
  intro _ w h; cases h; exact word27_lt _ _ (by decide)

theorem rts (c : Cond) :
    Statement (.rts c) := by
  intro _ w h; cases h
  have := cond_code_lt c
  omega

theorem rti (c : Cond) :
    Statement (.rti c) := by
  intro _ w h; cases h
  have := cond_code_lt c
  omega

theorem doUntil (a : Addr) (t : Term) :
    Statement (.doUntil a t) := by
  intro _ w h; cases h
  have := Addr.toNat_lt a
  have := term_code_lt t
  omega

theorem idle : Statement .idle := by
  intro _ w h; cases h; decide

theorem idleN (n : IdleDiv) :
    Statement (.idleN n) := by
  intro _ w h; cases h
  have := idleDiv_code_lt n
  omega

theorem nop : Statement .nop := by
  intro _ w h; cases h; decide

theorem stackControl (o : StackOps) :
    Statement (.stackControl o) := by
  intro _ w h; cases h; exact word26_lt _

theorem pushSts : Statement .pushSts := by
  intro _ w h; cases h; exact word26_lt _

theorem popSts : Statement .popSts := by
  intro _ w h; cases h; exact word26_lt _

theorem popCntr : Statement .popCntr := by
  intro _ w h; cases h; exact word26_lt _

theorem popPc : Statement .popPc := by
  intro _ w h; cases h; exact word26_lt _

theorem popLoop : Statement .popLoop := by
  intro _ w h; cases h; exact word26_lt _

theorem modeControl (o : ModeOps) :
    Statement (.modeControl o) := by
  intro _ w h; cases h; exact word18_lt _

theorem enaTimer : Statement .enaTimer := by
  intro _ w h; cases h; exact word18_lt _

theorem disTimer : Statement .disTimer := by
  intro _ w h; cases h; exact word18_lt _

theorem enaMMode : Statement .enaMMode := by
  intro _ w h; cases h; exact word18_lt _

theorem disMMode : Statement .disMMode := by
  intro _ w h; cases h; exact word18_lt _

theorem enaArSat : Statement .enaArSat := by
  intro _ w h; cases h; exact word18_lt _

theorem disArSat : Statement .disArSat := by
  intro _ w h; cases h; exact word18_lt _

theorem enaAvLatch : Statement .enaAvLatch := by
  intro _ w h; cases h; exact word18_lt _

theorem disAvLatch : Statement .disAvLatch := by
  intro _ w h; cases h; exact word18_lt _

theorem enaBitRev : Statement .enaBitRev := by
  intro _ w h; cases h; exact word18_lt _

theorem disBitRev : Statement .disBitRev := by
  intro _ w h; cases h; exact word18_lt _

theorem enaSecReg : Statement .enaSecReg := by
  intro _ w h; cases h; exact word18_lt _

theorem disSecReg : Statement .disSecReg := by
  intro _ w h; cases h; exact word18_lt _

theorem enaGMode : Statement .enaGMode := by
  intro _ w h; cases h; exact word18_lt _

theorem disGMode : Statement .disGMode := by
  intro _ w h; cases h; exact word18_lt _

theorem modify (p : Pair) :
    Statement (.modify p) := by
  intro _ w h; cases h
  have := low_lt p
  omega

theorem flagOut (o : FlagOps) (c : Cond) :
    Statement (.flagOut o c) := by
  intro _ w h; cases h
  have := flagOp_code_lt o.fl2
  have := flagOp_code_lt o.fl1
  have := flagOp_code_lt o.fl0
  have := flagOp_code_lt o.fo
  have := cond_code_lt c
  omega

theorem enaInts : Statement .enaInts := by
  intro _ w h; cases h

theorem disInts : Statement .disInts := by
  intro _ w h; cases h

theorem compDmPm (o : Comp) (d : XDual) (p : Pair) (e : YDual) (q : Pair) :
    Statement (.compDmPm o d p e q) := by
  intro hw w h
  obtain ⟨b, hb, rfl⟩ := Option.map_eq_some_iff.mp h
  simp only [Instr.wellFormed, Bool.and_eq_true] at hw
  exact word1_lt _ _ _ _ (compBits_lt_18 hw.1.1.2 hb)

theorem dualRead (d : XDual) (p : Pair) (e : YDual) (q : Pair) :
    Statement (.dualRead d p e q) := by
  intro _ w h; cases h; exact word1_lt d p e q (b := 0) (by decide)

theorem compDm (o : Comp) (d : DReg) (p : Pair) :
    Statement (.compDm o d p) := by
  intro _ w h
  obtain ⟨b, hb, rfl⟩ := Option.map_eq_some_iff.mp h
  have := compBits_lt hb
  have := word4_lt (d := 0) p d (by decide)
  omega

theorem shiftDm (o : ShiftFn) (d : DReg) (p : Pair) :
    Statement (.shiftDm o d p) := by
  intro _ w h; cases h; exact word12_lt _ _ _ (by decide)

theorem compPm (o : Comp) (d : DReg) (p : Pair) :
    Statement (.compPm o d p) := by
  intro _ w h
  obtain ⟨b, hb, rfl⟩ := Option.map_eq_some_iff.mp h
  have := compBits_lt hb
  have := word5_lt (d := 0) p d (by decide)
  omega

theorem shiftPm (o : ShiftFn) (d : DReg) (p : Pair) :
    Statement (.shiftPm o d p) := by
  intro _ w h; cases h; exact word13_lt _ _ _ (by decide)

theorem dmComp (p : Pair) (r : DReg) (o : Comp) :
    Statement (.dmComp p r o) := by
  intro _ w h
  obtain ⟨b, hb, rfl⟩ := Option.map_eq_some_iff.mp h
  have := compBits_lt hb
  have := word4_lt (d := 1) p r (by decide)
  omega

theorem dmShift (p : Pair) (r : DReg) (o : ShiftFn) :
    Statement (.dmShift p r o) := by
  intro _ w h; cases h; exact word12_lt _ _ _ (by decide)

theorem pmComp (p : Pair) (r : DReg) (o : Comp) :
    Statement (.pmComp p r o) := by
  intro _ w h
  obtain ⟨b, hb, rfl⟩ := Option.map_eq_some_iff.mp h
  have := compBits_lt hb
  have := word5_lt (d := 1) p r (by decide)
  omega

theorem pmShift (p : Pair) (r : DReg) (o : ShiftFn) :
    Statement (.pmShift p r o) := by
  intro _ w h; cases h; exact word13_lt _ _ _ (by decide)

theorem compMove (o : Comp) (d : DReg) (r : DReg) :
    Statement (.compMove o d r) := by
  intro _ w h
  obtain ⟨b, hb, rfl⟩ := Option.map_eq_some_iff.mp h
  have := compBits_lt hb
  have := dReg_code_lt d
  have := dReg_code_lt r
  omega

theorem shiftMove (o : ShiftFn) (d : DReg) (r : DReg) :
    Statement (.shiftMove o d r) := by
  intro _ w h; cases h
  have := shiftBits_lt o
  have := dReg_code_lt d
  have := dReg_code_lt r
  omega

end WordFits

end Sys2Proof.Laws
end

