-- ==== Sys2Proof/Tests/Slice0.lean ====
section
/-! SUPPORT. Tests: ill-formed terms that the checks refuse, words written out bit by bit from
spec/30_encoding.md R129 and R130, one-step vectors of spec/95_test_vectors.md (the V or S number
stands before each), stops, and one state for the hypotheses of each statement. -/

namespace Sys2Proof.Tests

open Sys2Proof.Machine Sys2Proof.Claims

/-! ### Ill-formed terms (R127) -/

/-- V137, R122: I and M of different DAGs, or both of DAG1 in a PM form. -/
theorem test_dags_are_checked :
    [Instr.dregDm .ax0 ⟨0, 4⟩, .dmDreg ⟨7, 3⟩ .ar, .dmData ⟨4, 0⟩ 1, .dregPm .ax0 ⟨0, 0⟩,
      .pmDreg ⟨3, 3⟩ .ar, .modify ⟨2, 5⟩, .dualRead .ax0 ⟨4, 4⟩ .ay0 ⟨4, 4⟩,
      .dualRead .ax0 ⟨0, 0⟩ .ay0 ⟨3, 3⟩, .compDm (.alu (.passX .ax0) .ar) .ax1 ⟨1, 7⟩,
      .compPm (.alu (.passX .ax0) .ar) .ax1 ⟨1, 1⟩].all (fun i => !i.wellFormed) = true := by decide

/-- V221, R159: a feedback destination with two reads. -/
theorem test_feedback_is_checked :
    Instr.wellFormed (.compDmPm (.alu (.xPlusY .ax0 .ay0) .af) .ax0 ⟨0, 0⟩ .ay0 ⟨4, 4⟩) = false := by
  decide

/-- R115: DIVS takes AY1 or AF. -/
theorem test_divs_operand_is_checked : Instr.wellFormed (.divs .ay0 .ax0) = false := by decide

/-- R221: the squaring forms take no (SU) and no (US). -/
theorem test_square_modifier_is_checked :
    Instr.wellFormed (.square .mr .mul .su .mx0 .always) = false ∧
      Instr.wellFormed (.compMove (.mac (.square .mac .us .mx0) .mr) .ax0 .ax1) = false := by decide

/-- R121 (log 33): a constant with a spelling of its own has no second one. -/
theorem test_constants_are_checked :
    [Instr.addXK .ar .ax0 (.other 0x0010) .always, .andXK .ar .ax0 (.other 0xFFEF) .always,
      .passK .ar (.other 0) .always, .passK .ar (.other 0xFFFF) .always].all
      (fun i => !i.wellFormed) = true ∧
    [Instr.addXK .ar .ax0 (.other 0x0011) .always, .subXK .af .ax0 (.other 0) .eq,
      .passK .ar (.other 3) .always].all (fun i => i.inGrammar && (encodeNat i).isNone) = true := by
  decide

/-- V148, R288: a constant for TX0 above 0x1FFF, and a data register in the form of other registers. -/
theorem test_data_is_checked :
    Instr.wellFormed (.regData .tx0 0x2000) = false ∧
      Instr.wellFormed (.regData (.dreg .ax0) 1) = false := by decide

/-- R341, R347 (log 9): a statement of one clause is the clause's constructor. -/
theorem test_clause_count_is_checked :
    Instr.wellFormed (.stackControl ⟨true, false, false, none⟩) = false ∧
      Instr.wellFormed (.modeControl { ModeOps.none with timer := .ena }) = false := by decide

/-- R113, Table 15.7, R347, R357: well-formed terms that are no statements of the grammar. -/
theorem test_grammar_is_checked :
    [Instr.regData .owrcntr 3, .regReg .owrcntr (.dreg .ax0), .regReg (.dreg .ax0) .owrcntr,
      .modeControl ModeOps.none, .flagOut ⟨.keep, .keep, .keep, .keep⟩ .always].all
      (fun i => i.wellFormed && !i.inGrammar) = true := by decide

/-! ### Words, bit by bit, the fields set apart -/

/-- Every word of the list decodes to its instruction. -/
def decodesTo (l : List (Nat × Instr)) : Bool :=
  l.all (fun x => decide (decodeTableWord 24 x.1 = some x.2))

/-- `xop` and `yop` (Type 9). -/
theorem test_decode_alu_xy : decodesTo [
    (0b00100_1_10011_01_101_0000_1100, .addXY .af .mr2 .ay1 .mv),
    (0b00100_1_10010_10_010_0000_1000, .addXYC .af .ar .af .ac),
    (0b00100_1_10111_10_000_0000_0100, .subXY .af .ax0 .af .lt),
    (0b00100_1_10110_10_101_0000_0000, .subXYC .af .mr2 .af .eq),
    (0b00100_1_11001_00_010_0000_1100, .subYX .af .ar .ay0 .mv),
    (0b00100_1_11010_00_000_0000_1000, .subYXC .af .ax0 .ay0 .ac),
    (0b00100_1_11100_00_101_0000_0100, .andXY .af .mr2 .ay0 .lt),
    (0b00100_1_11101_01_010_0000_0000, .orXY .af .ar .ay1 .eq),
    (0b00100_1_11110_01_000_0000_1100, .xorXY .af .ax0 .ay1 .mv)] = true := by decide

/-- One operand or none (Type 9). -/
theorem test_decode_alu_one_a : decodesTo [
    (0b00100_0_10010_11_101_0000_0001, .addXC .ar .mr2 .ne),
    (0b00100_1_10110_11_101_0000_0110, .subXC .af .mr2 .av),
    (0b00100_0_11010_11_101_0000_1011, .negXC .ar .mr2 .pos),
    (0b00100_1_10011_11_101_0000_0000, .passX .af .mr2 .eq),
    (0b00100_0_11001_11_101_0000_0101, .negX .ar .mr2 .ge),
    (0b00100_1_11011_00_101_0000_1010, .notX .af .mr2 .neg),
    (0b00100_0_11111_00_101_0000_1111, .absX .ar .mr2 .always),
    (0b00100_1_10000_00_000_0000_0100, .passY .af .ay0 .lt),
    (0b00100_0_10001_01_000_0000_1001, .incY .ar .ay1 .notAc),
    (0b00100_1_10100_10_000_0000_1110, .notY .af .af .notCe)] = true := by decide

/-- One operand or none (Type 9). -/
theorem test_decode_alu_one_b : decodesTo [
    (0b00100_0_10101_00_000_0000_0011, .negY .ar .ay0 .le),
    (0b00100_1_11000_01_000_0000_1000, .decY .af .ay1 .ac),
    (0b00100_1_10000_11_000_0000_0110, .pass0 .af .av),
    (0b00100_1_10001_11_000_0000_0100, .pass1 .af .lt),
    (0b00100_1_11000_11_000_0000_0010, .passM1 .af .gt)] = true := by decide

/-- A constant 2^k or NOT 2^k (Type 9: k is YY and CC, BO tells which). -/
theorem test_decode_alu_const_a : decodesTo [
    (0b00100_0_10011_01_101_01_01_0111, .addXK .ar .mr2 (.pow 5) .notAv),
    (0b00100_1_10010_11_101_00_01_1100, .addXKC .af .mr2 (.pow 12) .mv),
    (0b00100_0_10011_00_101_11_11_0001, .addXNK .ar .mr2 3 .ne),
    (0b00100_1_10010_10_101_10_11_0110, .addXNKC .af .mr2 10 .av),
    (0b00100_0_10111_00_101_01_01_1011, .subXK .ar .mr2 (.pow 1) .pos),
    (0b00100_1_10110_10_101_00_01_0000, .subXKC .af .mr2 (.pow 8) .eq),
    (0b00100_0_10111_11_101_11_11_0101, .subXNK .ar .mr2 15 .ge),
    (0b00100_1_10110_01_101_10_11_1010, .subXNKC .af .mr2 6 .neg),
    (0b00100_0_11001_11_101_01_01_1111, .subKX .ar .mr2 (.pow 13) .always),
    (0b00100_1_11010_01_101_00_01_0100, .subKXC .af .mr2 (.pow 4) .lt)] = true := by decide

/-- A constant 2^k or NOT 2^k (Type 9: k is YY and CC, BO tells which). -/
theorem test_decode_alu_const_b : decodesTo [
    (0b00100_0_11001_10_101_11_11_1001, .subNKX .ar .mr2 11 .notAc),
    (0b00100_1_11010_00_101_10_11_1110, .subNKXC .af .mr2 2 .notCe),
    (0b00100_0_11100_10_101_01_01_0011, .andXK .ar .mr2 (.pow 9) .le),
    (0b00100_1_11100_00_101_00_11_1000, .andXNK .af .mr2 0 .ac),
    (0b00100_0_11101_01_101_11_01_1101, .orXK .ar .mr2 (.pow 7) .notMv),
    (0b00100_1_11101_11_101_10_11_0010, .orXNK .af .mr2 14 .gt),
    (0b00100_0_11110_01_101_01_01_0111, .xorXK .ar .mr2 (.pow 5) .notAv),
    (0b00100_1_11110_11_101_00_11_1100, .xorXNK .af .mr2 12 .mv),
    (0b00100_1_10000_10_000_01_01_1010, .passK .af (.pow 9) .neg),
    (0b00100_1_10000_01_000_10_11_1000, .passNK .af 6 .ac)] = true := by decide

/-- DIVS and DIVQ (Types 23, 24). -/
theorem test_decode_divide : decodesTo [
    (0b00000110000_01_011_00000000, .divs .ay1 .mr0),
    (0b0000011100010_110_00000000, .divq .sr0)] = true := by decide

/-- The MAC (Types 9, 25). -/
theorem test_decode_mac_a : decodesTo [
    (0b00100_1_00001_01_010_0000_0100, .mulRnd .mf .ar .my1 .lt),
    (0b00100_1_00010_01_000_0000_0000, .macRnd .mf .mx0 .my1 .eq),
    (0b00100_1_00011_01_101_0000_1100, .msubRnd .mf .mr2 .my1 .mv),
    (0b00100_1_00100_10_010_0000_1000, .mulSs .mf .ar .mf .ac),
    (0b00100_1_00101_10_000_0000_0100, .mulSu .mf .mx0 .mf .lt),
    (0b00100_1_00110_10_101_0000_0000, .mulUs .mf .mr2 .mf .eq),
    (0b00100_1_00111_00_010_0000_1100, .mulUu .mf .ar .my0 .mv),
    (0b00100_1_01000_00_000_0000_1000, .macSs .mf .mx0 .my0 .ac),
    (0b00100_1_01001_00_101_0000_0100, .macSu .mf .mr2 .my0 .lt),
    (0b00100_1_01010_01_010_0000_0000, .macUs .mf .ar .my1 .eq)] = true := by decide

/-- The MAC (Types 9, 25). -/
theorem test_decode_mac_b : decodesTo [
    (0b00100_1_01011_01_000_0000_1100, .macUu .mf .mx0 .my1 .mv),
    (0b00100_1_01100_01_101_0000_1000, .msubSs .mf .mr2 .my1 .ac),
    (0b00100_1_01101_10_010_0000_0100, .msubSu .mf .ar .mf .lt),
    (0b00100_1_01110_10_000_0000_0000, .msubUs .mf .mx0 .mf .eq),
    (0b00100_1_01111_10_101_0000_1100, .msubUu .mf .mr2 .mf .mv),
    (0b00100_1_00100_11_000_0000_1010, .mrZero .mf .neg),
    (0b00100_1_01000_11_000_0000_1000, .mrMr .mf .ac),
    (0b00100_1_00010_11_000_0000_0110, .mrMrRnd .mf .av),
    (0b000001010000000000000000, .satMr)] = true := by decide

/-- The Shifter (Types 15, 16). -/
theorem test_decode_shifter : decodesTo [
    (0b000011100_0111_101_0000_0100, .ashift true .mr0 .lo .lt),
    (0b000011100_0001_001_0000_0010, .lshift true .sr1 .hi .gt),
    (0b000011100_1010_110_0000_0000, .norm false .mr1 .lo .eq),
    (0b000011100_1100_001_0000_1110, .expHi .sr1 .notCe),
    (0b000011100_1101_110_0000_1100, .expHix .mr1 .mv),
    (0b000011100_1110_010_0000_1010, .expLo .sr0 .neg),
    (0b000011100_1111_110_0000_1000, .expadj .mr1 .ac),
    (0b000011110_0111_110_11111011, .ashiftImm true .mr1 0xFB .lo),
    (0b000011110_0000_100_00000101, .lshiftImm false .ar 5 .hi)] = true := by decide

/-- The moves (Types 2 to 7, 17). -/
theorem test_decode_move : decodesTo [
    (0b000011010000_11_10_0101_0110, .regReg .cntr (.m 6)),
    (0b100_0_01_00000100000001_1010, .regDmAddr (.l 2) 0x0101),
    (0b011_1_0_0_00000_00_000_1101_10_01, .dregDm .mr2 ⟨6, 5⟩),
    (0b011_0_1_0_00000_00_000_1001_11_10, .dmDreg ⟨3, 2⟩ .se),
    (0b101_1_1010101111001101_01_11, .dmData ⟨5, 7⟩ 0xABCD),
    (0b100_1_00_00001100000000_1100, .dmAddrReg 0x0300 (.dreg .mr1)),
    (0b0100_1000000000000001_1100, .dregData .mr1 0x8001),
    (0b0011_10_10000000000001_0011, .regData (.i 7) 0x2001),
    (0b0101_0_0_00000_00_000_0110_01_10, .dregPm .my0 ⟨5, 6⟩),
    (0b0101_1_0_00000_00_000_1010_01_01, .pmDreg ⟨5, 5⟩ .ar)] = true := by decide

/-- The control transfers (Types 10, 11, 19, 20, 27, 31). -/
theorem test_decode_flow_a : decodesTo [
    (0b00011_0_00000001000000_0000, .jumpAddr 0x0040 .eq),
    (0b00011_1_10000000000101_1110, .callAddr 0x2005 .notCe),
    (0b0000101100000000_10_0_0_1111, .jumpInd 2 .always),
    (0b0000101100000000_01_0_1_0001, .callInd 1 .ne),
    (0b00000011_000100000010_10_1_0, .jumpFlag false 0x2102),
    (0b00000011_000100000010_01_0_1, .callFlag true 0x1102),
    (0b0000101000000000000_0_0011, .rts .le),
    (0b0000101000000000000_1_1111, .rti .always),
    (0b000101_00000000001010_1110, .doUntil 10 .ce),
    (0b00000010100000000000_0000, .idle)] = true := by decide

/-- The control transfers (Types 10, 11, 19, 20, 27, 31). -/
theorem test_decode_flow_b : decodesTo [
    (0b00000010100000000000_0100, .idleN .n64)] = true := by decide

/-- The miscellaneous instructions (Types 18, 21, 26, 28, 30). -/
theorem test_decode_misc : decodesTo [
    (0b000000000000000000000000, .nop),
    (0b0000010000000000000_1_0_1_10, .stackControl ⟨true, false, true, some .push⟩),
    (0b0000010000000000000_0_0_0_10, .pushSts),
    (0b0000010000000000000_0_0_0_11, .popSts),
    (0b0000010000000000000_0_0_1_00, .popCntr),
    (0b0000010000000000000_1_0_0_00, .popPc),
    (0b0000010000000000000_0_1_0_00, .popLoop),
    (0b00001100_00_11_11_00_10_00_00_00, .modeControl ⟨.keep, .ena, .ena, .keep, .dis, .keep, .keep⟩),
    (0b0000100100000000000_1_10_01, .modify ⟨6, 5⟩),
    (0b000000100000_11_10_01_00_0000, .flagOut ⟨.set, .reset, .toggle, .keep⟩ .eq)] = true := by decide

/-- One mode enabled or disabled (Type 18). -/
theorem test_decode_mode_a : decodesTo [
    (0b00001100_11_00_00_00_00_00_00_00, .enaTimer),
    (0b00001100_10_00_00_00_00_00_00_00, .disTimer),
    (0b00001100_00_11_00_00_00_00_00_00, .enaMMode),
    (0b00001100_00_10_00_00_00_00_00_00, .disMMode),
    (0b00001100_00_00_11_00_00_00_00_00, .enaArSat),
    (0b00001100_00_00_10_00_00_00_00_00, .disArSat),
    (0b00001100_00_00_00_11_00_00_00_00, .enaAvLatch),
    (0b00001100_00_00_00_10_00_00_00_00, .disAvLatch),
    (0b00001100_00_00_00_00_11_00_00_00, .enaBitRev),
    (0b00001100_00_00_00_00_10_00_00_00, .disBitRev)] = true := by decide

/-- One mode enabled or disabled (Type 18). -/
theorem test_decode_mode_b : decodesTo [
    (0b00001100_00_00_00_00_00_11_00_00, .enaSecReg),
    (0b00001100_00_00_00_00_00_10_00_00, .disSecReg),
    (0b00001100_00_00_00_00_00_00_11_00, .enaGMode),
    (0b00001100_00_00_00_00_00_00_10_00, .disGMode)] = true := by decide

/-- The multifunction instructions (Types 1, 4, 5, 8, 12 to 14). -/
theorem test_decode_multi_a : decodesTo [
    (0b11_01_10_10011_00_000_01_10_11_00, .compDmPm (.alu (.xPlusY .ax0 .ay0) .ar) .mx0 ⟨3, 0⟩ .ay1 ⟨5, 6⟩),
    (0b11_00_00_00000_00_000_00_00_00_00, .dualRead .ax0 ⟨0, 0⟩ .ay0 ⟨4, 4⟩),
    (0b011_0_0_1_10011_00_000_0000_10_01, .compDm (.alu (.xPlusY .ax0 .ay0) .af) .ax0 ⟨2, 1⟩),
    (0b0001001_1_0_0101_001_1010_11_01, .shiftDm (.shift .ashift true .hi .sr1) .ar ⟨7, 5⟩),
    (0b0101_0_0_01000_01_010_0010_01_10, .compPm (.mac (.prod .mac .ss .ar .my1) .mr) .mx0 ⟨5, 6⟩),
    (0b00010001_0_1100_000_0011_00_11, .shiftPm (.exp .hi .si) .mx1 ⟨4, 7⟩),
    (0b011_1_1_0_11111_00_111_1010_00_11, .dmComp ⟨4, 7⟩ .ar (.alu (.absX .sr1) .ar)),
    (0b0001001_0_1_0010_000_1111_01_10, .dmShift ⟨1, 2⟩ .sr1 (.shift .lshift false .lo .si)),
    (0b0101_1_1_01100_10_011_1110_11_00, .pmComp ⟨7, 4⟩ .sr0 (.mac (.prod .msub .ss .mr0 .mf) .mf)),
    (0b00010001_1_1111_110_1001_10_01, .pmShift ⟨6, 5⟩ .se (.expadj .mr1))] = true := by decide

/-- The multifunction instructions (Types 1, 4, 5, 8, 12 to 14). -/
theorem test_decode_multi_b : decodesTo [
    (0b00101_0_00100_00_001_0000_1100, .compMove (.mac (.prod .mul .ss .mx1 .my0) .mr) .ax0 .mr1),
    (0b000100000_1000_101_1000_1110, .shiftMove (.shift .norm false .hi .mr0) .si .sr0)] = true := by decide

/-- The words of the programs in spec/95_test_vectors.md Part 3. -/
theorem test_decode_programs : decodesTo [
    (0x47FFF0, .dregData .ax0 0x7FFF),
    (0x227806, .passX .ar .ax0 .av),
    (0x236000, .notX .ar .ax0 .eq),
    (0x340008, .regData (.l 0) 0),
    (0x0D004A, .regReg (.dreg .ay0) (.dreg .ar)),
    (0x23080F, .decY .ar .ay1 .always),
    (0x0C3000, .enaMMode),
    (0x3C0035, .regData .cntr 3),
    (0x0E210F, .ashift false .sr1 .hi .always),
    (0x0A001F, .rti .always)] = true := by decide

/-- R129: with AMF = 00000 a word of Type 1, 4 or 5 is the plain move, whatever YOP, XOP and Z. -/
theorem test_decode_moves_alone : decodesTo [
    (0b11_01_10_00000_01_101_01_10_11_00, .dualRead .mx0 ⟨3, 0⟩ .ay1 ⟨5, 6⟩),
    (0b011_1_0_1_00000_10_011_1101_10_01, .dregDm .mr2 ⟨6, 5⟩),
    (0b0101_1_1_00000_01_111_1010_01_01, .pmDreg ⟨5, 5⟩ .ar)] = true := by decide

/-- R129: a word of no format, and reserved codes. -/
theorem test_reserved_words :
    decode 0x010000#24 = .error .noFormat ∧ decode 0x800000#24 ≠ .ok (.regDmAddr (.dreg .ax0) 1) ∧
      decodeTableWord 24 0x3C000E = none := by decide

/-! ### One step (spec/95_test_vectors.md Parts 1 and 2) -/

/-- The next state, seen through a test of it. -/
def now (r : Result) (p : State → Bool) : Bool :=
  match r with
  | .next t => p t
  | .fault _ => false
  | .refused _ => false

abbrev start : State := State.reset

abbrev zeros : Bank := Bank.reset

def regs (b : Bank) (s : State) : State := s.setBank b

def astat (a : BitVec 8) (s : State) : State := s.setAstat a

def mstat (a : BitVec 7) (s : State) : State := s.setMstat a

/-- V1 -/
theorem test_add_overflow : now (exec (.addXY .ar .ax0 .ay0 .always)
    ((regs { zeros with ax0 := 0x7FFF, ay0 := 1 } start)))
    (fun t => t.bank.ar == 0x8000 && t.astat == 0x06) = true := by decide

/-- V3 -/
theorem test_add_carry_and_overflow : now (exec (.addXY .ar .ax0 .ay0 .always)
    ((regs { zeros with ax0 := 0x8000, ay0 := 0x8000 } start)))
    (fun t => t.bank.ar == 0 && t.astat == 0x0D) = true := by decide

/-- V4 -/
theorem test_add_with_carry : now (exec (.addXYC .ar .ax0 .ay0 .always)
    ((astat 0x08 (regs { zeros with ax0 := 0xFFFF, ay0 := 0xFFFF } start))))
    (fun t => t.bank.ar == 0xFFFF && t.astat == 0x0A) = true := by decide

/-- S1 -/
theorem test_add_conditional : now (exec (.addXYC .ar .ax0 .ay0 .ac)
    ((astat 0x08 (regs { zeros with ax0 := 1, ay0 := 2 } start))))
    (fun t => t.bank.ar == 4 && t.astat == 0x00 && t.pc == 1) = true := by decide

/-- V5 -/
theorem test_add_carry_only : now (exec (.addXC .ar .ax0 .always)
    ((astat 0x08 (regs { zeros with ax0 := 0x1234, ay0 := 0 } start))))
    (fun t => t.bank.ar == 0x1235 && t.astat == 0x00) = true := by decide

/-- V6 -/
theorem test_add_to_af : now (exec (.addXY .af .ax0 .ay0 .always)
    ((regs { zeros with ax0 := 1, ay0 := 1, ar := 0x5555 } start)))
    (fun t => t.bank.af == 2 && t.bank.ar == 0x5555) = true := by decide

/-- V7 -/
theorem test_add_constant : now (exec (.addXK .ar .ax0 (.pow 5) .always)
    ((regs { zeros with ax0 := 0x0100, ay0 := 0 } start)))
    (fun t => t.bank.ar == 0x0120 && t.astat == 0x00) = true := by decide

/-- V8 -/
theorem test_sub_no_borrow : now (exec (.subXY .ar .ax0 .ay0 .always)
    ((regs { zeros with ax0 := 5, ay0 := 3 } start)))
    (fun t => t.bank.ar == 2 && t.astat == 0x08) = true := by decide

/-- V11 -/
theorem test_sub_overflow : now (exec (.subXY .ar .ax0 .ay0 .always)
    ((regs { zeros with ax0 := 0x7FFF, ay0 := 0xFFFF } start)))
    (fun t => t.bank.ar == 0x8000 && t.astat == 0x06) = true := by decide

/-- V13 -/
theorem test_sub_with_borrow : now (exec (.subXYC .ar .ax0 .ay0 .always)
    ((regs { zeros with ax0 := 5, ay0 := 3 } start)))
    (fun t => t.bank.ar == 1 && t.astat == 0x08) = true := by decide

/-- V14 -/
theorem test_sub_borrow_only : now (exec (.subXC .ar .ax0 .always)
    ((regs { zeros with ax0 := 0, ay0 := 0 } start)))
    (fun t => t.bank.ar == 0xFFFF && t.astat == 0x02) = true := by decide

/-- R121: a constant of no row's form runs where the member's set has it, and is no instruction elsewhere. -/
theorem test_odd_constant :
    now (exec (.addXK .ar .ax0 (.other 3) .always) { start with params := { start.params with aluConstants := [3] } })
      (fun t => t.bank.ar == 3) = true ∧
    exec (.addXK .ar .ax0 (.other 3) .always) start = .refused .notAnInstruction := ⟨by decide, rfl⟩

/-- V16 -/
theorem test_sub_constant : now (exec (.subXK .ar .ax0 (.pow 4) .always)
    ((regs { zeros with ax0 := 0x0010, ay0 := 0 } start)))
    (fun t => t.bank.ar == 0 && t.astat == 0x09) = true := by decide

/-- V17 -/
theorem test_sub_reversed : now (exec (.subYX .ar .ax0 .ay0 .always)
    ((regs { zeros with ax0 := 5, ay0 := 3 } start)))
    (fun t => t.bank.ar == 0xFFFE && t.astat == 0x02) = true := by decide

/-- V19 -/
theorem test_neg_with_borrow : now (exec (.negXC .ar .ax0 .always)
    ((regs { zeros with ax0 := 1, ay0 := 0 } start)))
    (fun t => t.bank.ar == 0xFFFE && t.astat == 0x02) = true := by decide

/-- V20 -/
theorem test_constant_minus_x : now (exec (.subKX .ar .ax0 (.pow 2) .always)
    ((regs { zeros with ax0 := 1, ay0 := 0 } start)))
    (fun t => t.bank.ar == 3 && t.astat == 0x08) = true := by decide

/-- V21 -/
theorem test_and_clears_flags : now (exec (.andXY .ar .ax0 .ay0 .always)
    ((astat 0x0C (regs { zeros with ax0 := 0xF0F0, ay0 := 0xFF00 } start))))
    (fun t => t.bank.ar == 0xF000 && t.astat == 0x02) = true := by decide

/-- V23 -/
theorem test_xor_zero : now (exec (.xorXY .ar .ax0 .ay0 .always)
    ((regs { zeros with ax0 := 0xFFFF, ay0 := 0xFFFF } start)))
    (fun t => t.bank.ar == 0 && t.astat == 0x01) = true := by decide

/-- V25 -/
theorem test_tstbit_clear : now (exec (.tstbit .ar .ax0 4 .always)
    ((regs { zeros with ax0 := 0xFFEF, ay0 := 0 } start)))
    (fun t => t.bank.ar == 0 && t.astat == 0x01) = true := by decide

/-- V27 -/
theorem test_setbit : now (exec (.setbit .ar .ax0 3 .always)
    ((regs { zeros with ax0 := 0, ay0 := 0 } start)))
    (fun t => t.bank.ar == 8 && t.astat == 0x00) = true := by decide

/-- V28 -/
theorem test_clrbit : now (exec (.clrbit .ar .ax0 0 .always)
    ((regs { zeros with ax0 := 1, ay0 := 0 } start)))
    (fun t => t.bank.ar == 0 && t.astat == 0x01) = true := by decide

/-- V29 -/
theorem test_tglbit : now (exec (.tglbit .ar .ax0 15 .always)
    ((regs { zeros with ax0 := 0x8001, ay0 := 0 } start)))
    (fun t => t.bank.ar == 1 && t.astat == 0x00) = true := by decide

/-- V32 -/
theorem test_neg_overflow : now (exec (.negX .ar .ax0 .always)
    ((regs { zeros with ax0 := 0x8000, ay0 := 0 } start)))
    (fun t => t.bank.ar == 0x8000 && t.astat == 0x06) = true := by decide

/-- V35 -/
theorem test_not_x : now (exec (.notX .ar .ax0 .always)
    ((regs { zeros with ax0 := 0x00FF, ay0 := 0 } start)))
    (fun t => t.bank.ar == 0xFF00 && t.astat == 0x02) = true := by decide

/-- V38 -/
theorem test_abs_of_most_negative : now (exec (.absX .ar .ax0 .always)
    ((regs { zeros with ax0 := 0x8000, ay0 := 0 } start)))
    (fun t => t.bank.ar == 0x8000 && t.astat == 0x16) = true := by decide

/-- V39 -/
theorem test_abs_clears_as : now (exec (.absX .ar .ax0 .always)
    ((astat 0x10 (regs { zeros with ax0 := 0, ay0 := 0 } start))))
    (fun t => t.bank.ar == 0 && t.astat == 0x01) = true := by decide

/-- V40 -/
theorem test_inc_overflow : now (exec (.incY .ar .ay0 .always)
    ((regs { zeros with ax0 := 0, ay0 := 0x7FFF } start)))
    (fun t => t.bank.ar == 0x8000 && t.astat == 0x06) = true := by decide

/-- V43 -/
theorem test_dec_to_zero : now (exec (.decY .ar .ay0 .always)
    ((regs { zeros with ax0 := 0, ay0 := 1 } start)))
    (fun t => t.bank.ar == 0 && t.astat == 0x09) = true := by decide

/-- V45 -/
theorem test_none_keeps_ar : now (exec (.noneAlu (.xMinusY .ax0 .ay0))
    ((regs { zeros with ax0 := 3, ay0 := 3, ar := 0x5555 } start)))
    (fun t => t.bank.ar == 0x5555 && t.astat == 0x09) = true := by decide

/-- V46 -/
theorem test_saturated_add : now (exec (.addXY .ar .ax0 .ay0 .always)
    ((mstat 0x08 (regs { zeros with ax0 := 0x7FFF, ay0 := 1 } start))))
    (fun t => t.bank.ar == 0x7FFF && t.astat == 0x06) = true := by decide

/-- V49 -/
theorem test_latched_av : now (exec (.andXY .ar .ax0 .ay0 .always)
    ((astat 0x04 (mstat 0x04 (regs { zeros with ax0 := 1, ay0 := 1 } start)))))
    (fun t => t.bank.ar == 1 && t.astat == 0x04) = true := by decide

/-- V51 -/
theorem test_mr2_is_signed : now (exec (.addXY .ar .mr2 .ay0 .always)
    ((regs { zeros with mr2 := 0xFF, ay0 := 2 } start)))
    (fun t => t.bank.ar == 1 && t.astat == 0x08) = true := by decide

/-- V52 -/
theorem test_false_condition : now (exec (.passY .ar .ay0 .lt)
    ((astat 0x06 (regs { zeros with ax0 := 0, ay0 := 7, ar := 9 } start))))
    (fun t => t.bank.ar == 9 && t.astat == 0x06 && t.pc == 1) = true := by decide

/-- V60 -/
theorem test_product_fractional : now (exec (.mulSs .mr .mx0 .my0 .always)
    ((regs { zeros with mx0 := 0x4000, my0 := 0x4000 } start)))
    (fun t => t.bank.mr == 0x20000000 && t.flag .mv == false) = true := by decide

/-- V63 -/
theorem test_product_unsigned : now (exec (.mulUu .mr .mx0 .my0 .always)
    ((mstat 0x10 (regs { zeros with mx0 := 0xFFFF, my0 := 0xFFFF } start))))
    (fun t => t.bank.mr == 0xFFFE0001 && t.flag .mv == true) = true := by decide

/-- V67 -/
theorem test_product_corner : now (exec (.mulSs .mr .mx0 .my0 .always)
    ((regs { zeros with mx0 := 0x8000, my0 := 0x8000 } start)))
    (fun t => t.bank.mr == 0x80000000 && t.flag .mv == true) = true := by decide

/-- V68 -/
theorem test_product_signed_by_unsigned : now (exec (.mulSu .mr .mx0 .my0 .always)
    ((mstat 0x10 (regs { zeros with mx0 := 0xFFFF, my0 := 2 } start))))
    (fun t => t.bank.mr == 0xFFFFFFFFFE && t.flag .mv == false) = true := by decide

/-- V70 -/
theorem test_product_unsigned_by_signed : now (exec (.mulUs .mr .mx0 .my0 .always)
    ((mstat 0x10 (regs { zeros with mx0 := 2, my0 := 0xFFFF } start))))
    (fun t => t.bank.mr == 0xFFFFFFFFFE && t.flag .mv == false) = true := by decide

/-- V71 -/
theorem test_accumulate : now (exec (.macSs .mr .mx0 .my0 .always)
    ((regs { zeros with mx0 := 0x7FFF, my0 := 0x7FFF, mr1 := 0x7FFF } start)))
    (fun t => t.bank.mr == 0xFFFD0002 && t.flag .mv == true) = true := by decide

/-- V72 -/
theorem test_accumulate_wraps : now (exec (.macUu .mr .mx0 .my0 .always)
    ((mstat 0x10 (regs { zeros with mx0 := 1, my0 := 1, mr2 := 0x7F, mr1 := 0xFFFF, mr0 := 0xFFFF } start))))
    (fun t => t.bank.mr == 0x8000000000 && t.flag .mv == true) = true := by decide

/-- V73 -/
theorem test_product_subtracted : now (exec (.msubSs .mr .mx0 .my0 .always)
    ((mstat 0x10 (regs { zeros with mx0 := 3, my0 := 2, mr0 := 5 } start))))
    (fun t => t.bank.mr == 0xFFFFFFFFFF && t.flag .mv == false) = true := by decide

/-- V75 -/
theorem test_product_to_mf : now (exec (.mulSs .mf .mx0 .my0 .always)
    ((regs { zeros with mx0 := 0x4000, my0 := 0x4000, mr0 := 0x789A } start)))
    (fun t => t.bank.mf == 0x2000 && t.bank.mr0 == 0x789A) = true := by decide

/-- V78 -/
theorem test_transfer_sets_mv : now (exec (.mrMr .mr .always)
    ((regs { zeros with mr2 := 1 } start)))
    (fun t => t.bank.mr == 0x0100000000 && t.flag .mv == true) = true := by decide

/-- V79 -/
theorem test_saturate_positive : now (exec (.satMr)
    ((astat 0x40 (regs { zeros with mr2 := 1 } start))))
    (fun t => t.bank.mr == 0x007FFFFFFF && t.flag .mv == true) = true := by decide

/-- V80 -/
theorem test_saturate_negative : now (exec (.satMr)
    ((astat 0x40 (regs { zeros with mr2 := 0x80 } start))))
    (fun t => t.bank.mr == 0xFF80000000 && t.flag .mv == true) = true := by decide

/-- V82 -/
theorem test_square : now (exec (.square .mr .mul .ss .mx0 .always)
    ((mstat 0x10 (regs { zeros with mx0 := 0xFFFD, my0 := 0 } start))))
    (fun t => t.bank.mr == 9 && t.flag .mv == false) = true := by decide

/-- V90 -/
theorem test_ashift_right_hi : now (exec (.ashiftImm false .si 0xFB .hi)
    ((regs { zeros with si := 0xB6A3 } start)))
    (fun t => t.bank.sr == 0xFDB51800) = true := by decide

/-- V91 -/
theorem test_ashift_left_lo : now (exec (.ashiftImm false .si 3 .lo)
    ((regs { zeros with si := 0xB6A3 } start)))
    (fun t => t.bank.sr == 0xFFFDB518) = true := by decide

/-- V97 -/
theorem test_lshift_or : now (exec (.lshiftImm true .si 8 .lo)
    ((regs { zeros with si := 0x00FF, sr1 := 0x1234 } start)))
    (fun t => t.bank.sr == 0x1234FF00) = true := by decide

/-- V100 -/
theorem test_lshift_by_32 : now (exec (.lshiftImm false .si 32 .lo)
    ((regs { zeros with si := 1 } start)))
    (fun t => t.bank.sr == 0) = true := by decide

/-- V110 -/
theorem test_ashift_of_sr1_by_se : now (exec (.ashift false .sr1 .hi .always)
    ((regs { zeros with sr1 := 0x1234, sr0 := 0xFF00, se := 0xFC } start)))
    (fun t => t.bank.sr == 0x01234000) = true := by decide

/-- V109 -/
theorem test_lshift_by_se : now (exec (.lshift false .si .hi .always)
    ((regs { zeros with si := 0x8000, se := 0xFF } start)))
    (fun t => t.bank.sr == 0x40000000) = true := by decide

/-- V121 -/
theorem test_move_of_mr2 : now (exec (.regReg (.dreg .ax0) (.dreg .mr2))
    ((regs { zeros with mr2 := 0x80 } start)))
    (fun t => t.bank.ax0 == 0xFF80) = true := by decide

/-- V123 -/
theorem test_move_of_m3 : now (exec (.regReg (.dreg .ax0) (.m 3))
    ((start.setMdf (start.mdf.set 3 0x3FFF))))
    (fun t => t.bank.ax0 == 0xFFFF) = true := by decide

/-- V126 -/
theorem test_move_into_i2 : now (exec (.regReg (.i 2) (.dreg .ax0))
    ((regs { zeros with ax0 := 0xFFFF, ay0 := 0 } start)))
    (fun t => t.idx.get 2 == 0x3FFF) = true := by decide

/-- V127 -/
theorem test_mr1_fills_mr2 : now (exec (.dregData .mr1 0x8000)
    (start))
    (fun t => t.bank.mr1 == 0x8000 && t.bank.mr2 == 0xFF) = true := by decide

/-- V129 -/
theorem test_cntr_pushes : now (exec (.regData .cntr 10)
    ((start.setCntr ⟨3, true⟩)))
    (fun t => t.cntr == ⟨10, true⟩ && t.stk.cntr == [3]) = true := by decide

/-- V132 -/
theorem test_load_direct : now (exec (.regDmAddr (.dreg .ax0) 0x0100)
    ((start.setDm [(0x100, 0x1234)])))
    (fun t => t.bank.ax0 == 0x1234) = true := by decide

/-- V134 -/
theorem test_load_indirect : now (exec (.dregDm .ax0 ⟨0, 0⟩)
    (((start.setDm [(0x100, 0xAA)]).setIdx (start.idx.set 0 0x100)).setMdf (start.mdf.set 0 1)))
    (fun t => t.bank.ax0 == 0xAA && t.idx.get 0 == 0x101) = true := by decide

/-- V138 -/
theorem test_store_indirect : now (exec (.dmDreg ⟨4, 4⟩ .ar)
    (((regs { zeros with ar := 0xBEEF } start).setIdx (start.idx.set 4 0x200)).setMdf (start.mdf.set 4 0x3FFF)))
    (fun t => t.dm == [(0x200, 0xBEEF)] && t.idx.get 4 == 0x1FF) = true := by decide

/-- V140 -/
theorem test_store_direct : now (exec (.dmAddrReg 0x200 (.dreg .se))
    ((regs { zeros with se := 0x80 } start)))
    (fun t => t.dm == [(0x200, 0xFF80)]) = true := by decide

/-- V141 -/
theorem test_load_pm : now (exec (.dregPm .mx0 ⟨4, 4⟩)
    (((start.setPm [(0x10, .word 0x123456 false)]).setIdx (start.idx.set 4 0x10)).setMdf (start.mdf.set 4 1)))
    (fun t => t.bank.mx0 == 0x1234 && t.px == 0x56 && t.idx.get 4 == 0x11) = true := by decide

/-- V142 -/
theorem test_store_pm : now (exec (.pmDreg ⟨5, 5⟩ .ar)
    (((regs { zeros with ar := 0xABCD } start).setPx 0xEF).setIdx (start.idx.set 5 0x20)))
    (fun t => t.pm == [(0x20, .word 0xABCDEF true)]) = true := by decide

/-- V145 -/
theorem test_read_of_sstat : now (exec (.regReg (.dreg .ax0) .sstat)
    (start))
    (fun t => t.bank.ax0 == 0x55) = true := by decide

/-- V160 -/
theorem test_jump_taken : now (exec (.jumpAddr 0x40 .eq)
    ((astat 1 (start.setPc 0x10))))
    (fun t => t.pc == 0x40) = true := by decide

/-- V161 -/
theorem test_jump_not_taken : now (exec (.jumpAddr 0x40 .eq)
    ((start.setPc 0x10)))
    (fun t => t.pc == 0x11) = true := by decide

/-- V162 -/
theorem test_jump_indirect : now (exec (.jumpInd 0 .always)
    ((start.setIdx (start.idx.set 4 0x123))))
    (fun t => t.pc == 0x123 && t.idx.get 4 == 0x123) = true := by decide

/-- V164 -/
theorem test_call : now (exec (.callAddr 5 .always)
    ((start.setPc 2)))
    (fun t => t.pc == 5 && t.stk.pc == [3]) = true := by decide

/-- V166 -/
theorem test_rts : now (exec (.rts .always)
    (((start.setPc 6).setStk { start.stk with pc := [3] })))
    (fun t => t.pc == 3 && t.stk.pc == []) = true := by decide

/-- V169 -/
theorem test_rti : now (exec (.rti .always)
    ((astat 9 ((start.setPc 0x22).setStk { start.stk with pc := [5], sts := [⟨0, 0, 1⟩] }))))
    (fun t => t.pc == 5 && t.astat == 0 && t.imask == 1 && t.stk.sts == []) = true := by decide

/-- V170 -/
theorem test_do_until : now (exec (.doUntil 6 .ce)
    ((start.setPc 4)))
    (fun t => t.pc == 5 && t.stk.pc == [5] && t.stk.loop == [⟨6, .ce⟩]) = true := by decide

/-- V172 -/
theorem test_loop_back : now (exec (.nop)
    ((((start.setPc 6).setStk { start.stk with pc := [5], loop := [⟨6, .ce⟩] }).setCntr ⟨3, true⟩)))
    (fun t => t.pc == 5 && t.cntr == ⟨2, true⟩) = true := by decide

/-- V173 -/
theorem test_loop_falls_out : now (exec (.nop)
    ((((start.setPc 6).setStk { start.stk with pc := [5], loop := [⟨6, .ce⟩], cntr := [7] }).setCntr ⟨1, true⟩)))
    (fun t => t.pc == 7 && t.cntr == ⟨7, true⟩ && t.stk == start.stk) = true := by decide

/-- V177 -/
theorem test_counter_jump : now (exec (.jumpAddr 3 .notCe)
    (((start.setPc 9).setCntr ⟨2, true⟩)))
    (fun t => t.pc == 3 && t.cntr == ⟨1, true⟩) = true := by decide

/-- V179 -/
theorem test_idle : now (exec (.idle)
    ((start.setPc 0x30)))
    (fun t => t.pc == 0x31 && t.idle) = true := by decide

/-- V191 -/
theorem test_push_sts : now (exec (.pushSts)
    (((astat 5 (mstat 0x10 start)).setImask 3)))
    (fun t => t.stk.sts == [⟨5, 0x10, 3⟩] && t.astat == 5) = true := by decide

/-- V193 -/
theorem test_pop_sts : now (exec (.popSts)
    ((start.setStk { start.stk with sts := [⟨5, 0x10, 3⟩] })))
    (fun t => t.astat == 5 && t.mstat == 0x10 && t.imask == 3 && t.stk.sts == []) = true := by decide

/-- V194 -/
theorem test_pop_cntr : now (exec (.popCntr)
    (((start.setCntr ⟨3, true⟩).setStk { start.stk with cntr := [10] })))
    (fun t => t.cntr == ⟨10, true⟩ && t.stk.cntr == []) = true := by decide

/-- V197 -/
theorem test_three_pops : now (exec (.stackControl ⟨true, true, true, none⟩)
    ((start.setStk { start.stk with pc := [5], cntr := [10], loop := [⟨6, .ce⟩] })))
    (fun t => t.cntr == ⟨10, true⟩ && t.stk == start.stk) = true := by decide

/-- V199 -/
theorem test_modes_together : now (exec (.modeControl ⟨.keep, .ena, .ena, .keep, .dis, .keep, .keep⟩)
    (start))
    (fun t => t.mstat == 0x18) = true := by decide

/-- V200 -/
theorem test_dis_m_mode : now (exec (.disMMode)
    ((mstat 0x7F start)))
    (fun t => t.mstat == 0x6F) = true := by decide

/-- V202 -/
theorem test_secondary_registers : now (exec (.dregData .ax0 5)
    ((mstat 1 (start.setPrimary { zeros with ax0 := 1 }))))
    (fun t => t.primary.ax0 == 1 && t.secondary.ax0 == 5) = true := by decide

/-- V203 -/
theorem test_modify : now (exec (.modify ⟨2, 1⟩)
    (((start.setIdx (start.idx.set 2 0x100)).setMdf (start.mdf.set 1 0x3FFE))))
    (fun t => t.idx.get 2 == 0xFE) = true := by decide

/-- V205 -/
theorem test_flag_out : now (exec (.flagOut ⟨.keep, .toggle, .keep, .set⟩ .eq)
    ((astat 1 (start.setPins ⟨false, true, false, true⟩))))
    (fun t => t.pins == ⟨true, true, true, true⟩) = true := by decide

/-- V207 -/
theorem test_dis_ints : now (exec (.disInts)
    (start))
    (fun t => t.ints == false) = true := by decide

/-- V220 -/
theorem test_add_with_two_reads : now (exec (.compDmPm (.alu (.xPlusY .ax0 .ay0) .ar) .ax0 ⟨0, 0⟩ .ay0 ⟨4, 4⟩)
    (((((regs { zeros with ax0 := 2, ay0 := 3 } start).setDm [(0x10, 7)]).setPm [(0x100, .word 0x000905 false)]).setIdx ((start.idx.set 0 0x10).set 4 0x100)).setMdf ((start.mdf.set 0 1).set 4 1)))
    (fun t => t.bank.ar == 5 && t.bank.ax0 == 7 && t.bank.ay0 == 9 && t.px == 5 && t.idx.get 0 == 0x11 && t.idx.get 4 == 0x101) = true := by decide

/-- S5 -/
theorem test_two_reads : now (exec (.dualRead .ax0 ⟨0, 0⟩ .ay0 ⟨4, 4⟩)
    (((((regs { zeros with ax0 := 2, ay0 := 3 } start).setDm [(0x10, 7)]).setPm [(0x100, .word 0x000905 false)]).setIdx ((start.idx.set 0 0x10).set 4 0x100)).setMdf ((start.mdf.set 0 1).set 4 1)))
    (fun t => t.bank.ax0 == 7 && t.bank.ay0 == 9 && t.bank.ar == 0) = true := by decide

/-- V222 -/
theorem test_add_with_load : now (exec (.compDm (.alu (.xPlusY .ax0 .ay0) .ar) .ax0 ⟨2, 1⟩)
    ((((regs { zeros with ax0 := 1, ay0 := 1 } start).setDm [(0x20, 0x1234)]).setIdx (start.idx.set 2 0x20)).setMdf (start.mdf.set 1 2)))
    (fun t => t.bank.ar == 2 && t.bank.ax0 == 0x1234 && t.idx.get 2 == 0x22) = true := by decide

/-- V223 -/
theorem test_product_with_pm_load : now (exec (.compPm (.mac (.prod .mul .uu .mx0 .my0) .mr) .my0 ⟨5, 5⟩)
    ((((mstat 0x10 (regs { zeros with mx0 := 2, my0 := 3 } start)).setPm [(0x200, .word 0xABCDEF false)]).setIdx (start.idx.set 5 0x200)).setMdf (start.mdf.set 5 1)))
    (fun t => t.bank.mr == 6 && t.bank.my0 == 0xABCD && t.px == 0xEF && t.idx.get 5 == 0x201) = true := by decide

/-- V224 -/
theorem test_store_with_add : now (exec (.dmComp ⟨0, 0⟩ .ar (.alu (.xPlusY .ax0 .ay0) .ar))
    (((regs { zeros with ar := 9, ax0 := 1, ay0 := 1 } start).setIdx (start.idx.set 0 0x30)).setMdf (start.mdf.set 0 1)))
    (fun t => t.dm == [(0x30, 9)] && t.bank.ar == 2 && t.idx.get 0 == 0x31) = true := by decide

/-- V225 -/
theorem test_store_pm_with_shift : now (exec (.pmShift ⟨4, 4⟩ .sr1 (.shift .ashift false .hi .si))
    (((regs { zeros with sr1 := 0xFF, si := 0x8000, se := 0xFF } start).setPx 0x12).setIdx (start.idx.set 4 0x300)))
    (fun t => t.pm == [(0x300, .word 0x00FF12 true)] && t.bank.sr == 0xC0000000) = true := by decide

/-- V226 -/
theorem test_move_with_add : now (exec (.compMove (.alu (.xPlusY .ax0 .ay0) .ar) .ax1 .ar)
    ((regs { zeros with ar := 5, ax0 := 1, ay0 := 2 } start)))
    (fun t => t.bank.ax1 == 5 && t.bank.ar == 3) = true := by decide

/-- V240 -/
theorem test_interrupt_entry :
    now (step (((astat 9 (start.setPc 5)).setPending 1).setImask 1))
    (fun t => t.stk.pc == [5] && t.stk.sts == [⟨9, 0, 1⟩] && t.imask == 0 && t.pending == 0 &&
      t.pc == 0x28 && t.astat == 9) = true := by decide

/-- R110: the word that `withFetchWord` stores is the next to run (`AX0 = 0x7FFF`). -/
theorem test_fetch : now (step (start.withFetchWord 24 0x47FFF0))
    (fun t => t.bank.ax0 == 0x7FFF && t.pc == 1) = true := by decide

/-! ### Stops -/

/-- How a step stops. -/
def stop : Result → Option Stop
  | .next _ => none
  | .fault r => some (.fault r)
  | .refused r => some (.refused r)

/-- V133, V144, V146 -/
theorem test_stops_of_moves :
    stop (exec (.regDmAddr (.dreg .ax0) 0x0100) start) = some (.fault (.unwritten .dm 0x0100)) ∧
      stop (exec (.regReg .sstat (.dreg .ax0)) start) = some (.refused .writeToSstat) ∧
      stop (exec (.regReg (.dreg .ax0) .ifc) start) = some (.refused .readOfIfc) := by decide

/-- V167, V171, V175, V176, V181 -/
theorem test_stops_of_flow :
    stop (exec (.rts .always) (start.setPc 6)) = some (.fault (.stackUnderflow .pc)) ∧
      stop (exec (.doUntil 4 .ce) (start.setPc 4)) = some (.refused .loopEndNotAfterDo) ∧
      stop (exec (.jumpAddr 3 .notCe) (start.setCntr ⟨0, true⟩)) =
        some (.refused .counterTestZero) ∧
      stop (exec (.jumpAddr 3 .notCe) start) = some (.refused .counterTestZero) ∧
      stop (exec (.jumpAddr 5 .always)
        ((start.setPc 6).setStk { start.stk with pc := [5], loop := [⟨6, .ce⟩] })) =
        some (.refused .controlTransferAtLoopEnd) ∧
      stop (exec .nop (start.setPc 0x3FFF)) = some (.fault .pcWrap) := by decide

/-- V227, V228 -/
theorem test_stops_of_clashes :
    stop (exec (.compDm (.alu (.xPlusY .ax0 .ay0) .ar) .ar ⟨0, 0⟩) start) =
        some (.refused (.twoWrites .ar)) ∧
      stop (exec (.compMove (.mac (.prod .mac .ss .mx0 .my0) .mr) .mr1 .ax0) start) =
        some (.refused (.twoWrites .mr1)) := by decide

/-- R100: what another agent writes to an address that the program has written still cannot run. -/
theorem test_mark_stays :
    now (step ((start.setPm [(0, .word 1 true)]).setEnv [some (.dmaWritePm 0 2)]))
      (fun t => t.pm == [(0, .word 2 true)] &&
        stop (step t) == some (.refused (.fetchOfWrittenWord 0))) = true := by decide

/-! ### Witnesses: states that meet the hypotheses of the statements -/

theorem straight_of {s : State} (h1 : s.pc ≠ 0x3FFF#14) (h2 : s.stk.loop = []) : Straight s :=
  ⟨h1, fun ⟨_, _, h, _⟩ => by rw [h2] at h; cases h⟩

theorem open_of {s : State} (h : s.stk.loop = []) : ¬ AtLoopEnd s :=
  fun ⟨_, _, h2, _⟩ => by rw [h] at h2; cases h2

theorem start_straight : Straight start := straight_of (by decide) rfl

theorem last_straight : Straight (start.setPc 0x3FFE#14) := straight_of (by decide) rfl

theorem start_when : When .always start start := ⟨rfl, start_straight⟩

/-- A start state whose condition counts: NOT CE at CNTR = 2. -/
theorem counting_when : When .notCe (start.setCntr ⟨2, true⟩) (start.setCntr ⟨1, true⟩) :=
  ⟨rfl, straight_of (by decide) rfl⟩

/-- Data memory with 7 at 0, and a PM word at 0x100. -/
abbrev stored : State :=
  ((start.setDm [(0, 7)]).setPm [(0x100, .word 0x000905 false)]).setIdx (start.idx.set 4 0x100)

theorem stored_straight : Straight stored := straight_of (by decide) rfl

theorem witness_ReadAfterWrite :
    (∃ t, writeDm 0x3FDF 1 start = .ok t) ∧ (∃ t, writeDm 0 1 start = .ok t) ∧
      ∃ t, writePm 0x3FFF 1 start = .ok t := ⟨⟨_, rfl⟩, ⟨_, rfl⟩, ⟨_, rfl⟩⟩

/-- A launch map without data memory. -/
abbrev noDm : State := { start with params := { start.params with dmMap := [] } }

theorem witness_MovesThatStop :
    regionKind noDm.params.dmMap 0 = none ∧
      regionKind start.params.dmMap (0x3FE0#14).toNat = some .control ∧
      regionKind start.params.dmMap (0x3FFF#14).toNat = some .control ∧
      (RamDm start 0x3FDF ∧ Memory.lookup start.dm (0x3FDF#14).toNat = none) ∧
      Moves (.regData .sstat 1) .sstat 1 start start :=
  ⟨rfl, rfl, rfl, ⟨rfl, rfl⟩, .inr (.inr ⟨1, rfl, by decide, rfl⟩)⟩

/-- A NOP word at the first and the last address. -/
abbrev nops : State := start.setPm [(0, .word 0 false), (0x3FFF, .stmt .enaInts)]

/-- The premises of the two statements about `step`, at a state that is to fetch at `pc`. -/
abbrev Fetches (s : State) : Prop :=
  deliverable s = none ∧ s.idle = false ∧ regionKind s.params.pmMap s.pc.toNat = some .ram

theorem witness_StepRunsDecoded :
    (Fetches nops ∧ Memory.lookup nops.pm nops.pc.toNat = some (.word 0 false) ∧
      decode 0 = .ok .nop ∧ CoreTurn nops nops) ∧
    (let s := (nops.setPc 0x3FFF).setEnv [none]
     Fetches s ∧ Memory.lookup s.pm s.pc.toNat = some (.stmt .enaInts) ∧
       Instr.inGrammar .enaInts = true ∧ CoreTurn s (s.setEnv [])) :=
  ⟨⟨⟨rfl, rfl, rfl⟩, rfl, rfl, .inl ⟨rfl, rfl⟩⟩,
    ⟨⟨rfl, rfl, rfl⟩, rfl, rfl, .inr ⟨[], rfl, rfl⟩⟩⟩

theorem witness_FetchRefusals :
    (let s := start.setPm [(0, .word 0 true)]
     Fetches s ∧ s.env = [] ∧ Memory.lookup s.pm s.pc.toNat = some (.word 0 true)) ∧
    (let s := (start.setPm [(0x3FFF, .word 1 false)]).setPc 0x3FFF
     Fetches s ∧ s.env = [] ∧ Memory.lookup s.pm s.pc.toNat = some (.word 1 false) ∧
       decode 1 = .error .noFormat) ∧
    (let s := start.setPm [(0, .stmt (.modeControl ModeOps.none))]
     Fetches s ∧ s.env = [] ∧
       Memory.lookup s.pm s.pc.toNat = some (.stmt (.modeControl ModeOps.none)) ∧
       Instr.inGrammar (.modeControl ModeOps.none) = false) :=
  ⟨⟨⟨rfl, rfl, rfl⟩, rfl, rfl⟩, ⟨⟨rfl, rfl, rfl⟩, rfl, rfl, rfl⟩, ⟨⟨rfl, rfl, rfl⟩, rfl, rfl, rfl⟩⟩

theorem witness_DecodeEncode :
    (Instr.wellFormed (.addXY .ar .ax0 .ay0 .always) = true ∧
      hasWord (.addXY .ar .ax0 .ay0 .always) = true ∧
      encodeNat (.addXY .ar .ax0 .ay0 .always) = some 0x22600F ∧
      isBitOp (.addXY .ar .ax0 .ay0 .always) = false) ∧
    (Instr.wellFormed (.tglbit .ar .ax0 15 .eq) = true ∧ hasWord (.tglbit .ar .ax0 15 .eq) = true) := by
  decide

theorem witness_DecodeWellFormed : ∃ i, decode 0xC00000#24 = .ok i := ⟨_, rfl⟩

theorem witness_OperandValues :
    start.mode .secReg = false ∧ (mstat 1 start).mode .secReg = true := by decide

theorem witness_ConditionTable :
    Cond.always ≠ .notCe ∧ Straight start ∧ start.stk.pc.length < start.params.pcDepth ∧
      (let s := start.setStk { start.stk with pc := List.replicate 15 3 }
       Straight s ∧ s.stk.pc.length < s.params.pcDepth) :=
  ⟨by decide, start_straight, by decide, straight_of (by decide) rfl, by decide⟩

/-- CNTR with a count, and the saved counts. -/
abbrev counting (v : Addr) (saved : List Addr) : State :=
  (start.setCntr ⟨v, true⟩).setStk { start.stk with cntr := saved }

/-- Counts at the ends of each clause's range. -/
theorem witness_CounterCondition :
    1 < (counting 2 []).cntr.value.toNat ∧ 1 < (counting 0x3FFF []).cntr.value.toNat ∧
      ((counting 1 [7]).cntr.value.toNat = 1 ∧ (counting 1 [7]).stk.cntr = 7 :: []) ∧
      ((counting 1 []).cntr.value.toNat = 1 ∧ (counting 1 []).stk.cntr = []) ∧
      (counting 0 [7]).cntr.value.toNat = 0 ∧
      (start.cntr.loaded = false ∧ start.cntr.value.toNat = 0) := by decide

theorem exists_of {i : Instr} (h1 : constForm i = false) (h2 : constantOf i = none)
    (h3 : ∀ o c, i ≠ .flagOut o c) (h4 : ∀ n, i ≠ .idleN n) (h5 : i ≠ .enaInts) (h6 : i ≠ .disInts)
    (s : State) : Exists i s :=
  ⟨fun h => absurd h (by simp [h1]), fun v h => absurd h (by simp [h2]),
    fun o c h => absurd h (h3 o c), fun n h => absurd h (h4 n),
    fun h => h.elim (fun h => absurd h h5) fun h => absurd h h6⟩

theorem exists_plain (s : State) : Exists (.addXY .ar .ax0 .ay0 .eq) s :=
  exists_of rfl rfl (by intro _ _ h; cases h) (by intro _ h; cases h) (by decide) (by decide) s

theorem witness_FalseConditionIsNop :
    condOf (.addXY .ar .ax0 .ay0 .eq) = some .eq ∧ Exists (.addXY .ar .ax0 .ay0 .eq) start ∧
      evalCond .eq start = .ok (false, start) ∧ Straight start ∧
      Exists (.passNK .ar 15 .notCe) (counting 1 [7]) ∧
      evalCond .notCe (counting 1 [7]) = .ok (false, (counting 1 [7]).setStk start.stk |>.setCntr ⟨7, true⟩) :=
  ⟨rfl, exists_plain _, rfl, start_straight,
    ⟨fun _ => rfl, fun v h => by injection h with h; subst h; decide, (fun _ _ h => nomatch h),
      (fun _ h => nomatch h), (fun h => by rcases h with h | h <;> cases h)⟩, rfl⟩

/-- At the end of a loop with a termination. -/
abbrev atEnd (t : Term) (v : Addr) (saved : List Addr) : State :=
  ((start.setPc 6).setStk { pc := [5], cntr := saved, loop := [⟨6, t⟩], sts := [] }).setCntr ⟨v, true⟩

theorem atEnd_isEnd (t : Term) (v : Addr) (saved : List Addr) : AtLoopEnd (atEnd t v saved) :=
  ⟨⟨6, t⟩, [], rfl, rfl⟩

theorem witness_LoopEndCheck :
    isFlow (.regData .astat 1) = false ∧ popsPcOrLoop (.regData .astat 1) = false ∧
      (∀ t v saved, (atEnd t v saved).pc ≠ 0x3FFF#14 ∧
        (atEnd t v saved).stk.loop = ⟨(atEnd t v saved).pc, t⟩ :: [] ∧
        (atEnd t v saved).stk.pc = 5 :: []) ∧
      (∀ x ∈ [(Term.eq, 0#14, ([] : List Addr)), (.ce, 2, []), (.ce, 1, [7]), (.ce, 1, []), (.ce, 0, [])],
        let s := atEnd x.1 x.2.1 x.2.2
        ∃ u, exec (.regData .astat 1) (s.setStk { s.stk with loop := [⟨s.pc + 1, x.1⟩] }) = .next u ∧
          u.astat = 1#8 ∧ u.cntr = ⟨x.2.1, true⟩ ∧ u.stk.cntr = x.2.2) ∧
      termTruth 1#8 .eq = true ∧ termTruth 1#8 .ne = false := by
  refine ⟨rfl, rfl, fun t v saved => ⟨(by decide : (6#14) ≠ 0x3FFF#14), rfl, rfl⟩, fun x hx => ?_, rfl, rfl⟩
  simp only [List.mem_cons, List.not_mem_nil, or_false] at hx
  rcases hx with rfl | rfl | rfl | rfl | rfl <;> exact ⟨_, rfl, rfl, rfl, rfl⟩

theorem witness_SequentialPc :
    isFlow .nop = false ∧ popsPcOrLoop .nop = false ∧
      (exec .nop (start.setPc 0x3FFE#14) = .next (start.setPc 0x3FFF#14) ∧
        ¬ AtLoopEnd (start.setPc 0x3FFE#14)) ∧
      (∃ t, exec .nop (atEnd .ce 2 []) = .next t ∧ t.pc = 5#14) ∧ AtLoopEnd (atEnd .ce 2 []) :=
  ⟨rfl, rfl, ⟨rfl, open_of rfl⟩, ⟨_, rfl, rfl⟩, atEnd_isEnd _ _ _⟩

theorem start_const (k : Bit) : HasConst start (pow2 k) ∧ HasConst start (notPow2 k) := by
  refine ⟨⟨rfl, ?_⟩, ⟨rfl, ?_⟩⟩ <;> revert k <;> decide

/-- A member whose set has one constant, and that of no row's form. -/
abbrev oddConstant : State := { start with params := { start.params with aluConstants := [3] } }

theorem odd_when : When .always oddConstant oddConstant := ⟨rfl, straight_of (by decide) rfl⟩

theorem odd_const : HasConst oddConstant (constVal (.other 3)) := ⟨rfl, by decide⟩

theorem witness_AddForms : When .always start start ∧
    (HasConst start (constVal (.pow 0)) ∧ HasConst start (notPow2 0)) ∧
    (HasConst start (constVal (.pow 15)) ∧ HasConst start (notPow2 15)) ∧
    (When .always oddConstant oddConstant ∧ HasConst oddConstant (constVal (.other 3))) ∧
    When .notCe (start.setCntr ⟨2, true⟩) (start.setCntr ⟨1, true⟩) :=
  ⟨start_when, start_const 0, start_const 15, ⟨odd_when, odd_const⟩, counting_when⟩

theorem witness_SubtractForms :
    (When .always start start ∧ HasConst start (constVal (.pow 15)) ∧ HasConst start (notPow2 15)) ∧
      When .always oddConstant oddConstant ∧ HasConst oddConstant (constVal (.other 3)) :=
  ⟨⟨start_when, start_const 15⟩, odd_when, odd_const⟩

theorem witness_LogicForms :
    (When .ne start start ∧ HasConst start (constVal (.pow 0)) ∧ HasConst start (notPow2 0)) ∧
      When .always oddConstant oddConstant ∧ HasConst oddConstant (constVal (.other 3)) :=
  ⟨⟨⟨rfl, start_straight⟩, start_const 0⟩, odd_when, odd_const⟩

theorem witness_BitOperations : When .ge start start ∧ start.params.hasAluConstants = true ∧ 15 < 16 :=
  ⟨⟨rfl, start_straight⟩, rfl, by decide⟩

theorem witness_PassAndNot :
    (When .gt start start ∧ start.params.hasAluConstants = true ∧ HasConst start 1 ∧
      HasConst start (BitVec.ofInt 16 (-1)) ∧ HasConst start (constVal (.pow 7)) ∧
      HasConst start (notPow2 7)) ∧
    When .always oddConstant oddConstant ∧ HasConst oddConstant (constVal (.other 3)) :=
  ⟨⟨⟨rfl, start_straight⟩, rfl, ⟨rfl, by decide⟩, ⟨rfl, by decide⟩, start_const 7⟩, odd_when,
    odd_const⟩

theorem witness_NegIncDec : When .notAv start start := ⟨rfl, start_straight⟩

theorem witness_AbsResult : When .notAc start start ∧
    (xAlu .ax0 (regs { zeros with ax0 := 0x8000 } start)).toInt = -32768 :=
  ⟨⟨rfl, start_straight⟩, by decide⟩

theorem witness_DivideSteps : Straight (start.setPc 0x3FFE#14) := last_straight

theorem witness_NoneKeepsRegisters : start.params.hasAluConstants = true ∧ Straight start :=
  ⟨rfl, start_straight⟩

theorem witness_WritersOfAsAndSs :
    exec (.expHi .si .eq) start = .next start.stepped ∧ replacesAstat (.expHi .si .eq) = false ∧
      hasAbs (.expHi .si .eq) = false ∧
      (∃ t, exec (.absX .ar .ax0 .always) start = .next t) ∧
      replacesAstat (.absX .ar .ax0 .always) = false ∧ hasExp (.absX .ar .ax0 .always) = false :=
  ⟨rfl, rfl, rfl, ⟨_, rfl⟩, rfl, rfl⟩

theorem witness_ProductForms : When .pos start start := ⟨rfl, start_straight⟩

theorem witness_RoundingForms : When .notMv start start := ⟨rfl, start_straight⟩

theorem witness_SquareForms : When .always start start := start_when

theorem witness_ClearTransferSaturate :
    When .mv (astat 0x40 start) (astat 0x40 start) ∧
      mrInt (regs { zeros with mr2 := 0x80 } start) < 0 ∧ ¬ mrInt start < 0 :=
  ⟨⟨rfl, straight_of (by decide) rfl⟩, by decide, by decide⟩

theorem witness_ShiftForms : When .le (astat 1 start) (astat 1 start) :=
  ⟨rfl, straight_of (by decide) rfl⟩

theorem witness_NormExpExpadj : When .lt (astat 2 start) (astat 2 start) :=
  ⟨rfl, straight_of (by decide) rfl⟩

theorem witness_MoveIntoRegister :
    Straight stored ∧ plainDest .tx0 = true ∧
      Moves (.regReg .tx0 (.m 3)) .tx0 (value stored (.m 3)) stored stored ∧
      Moves (.regReg .px .rx0) .px (Config.rxSample 0) stored (stored.setDraws 1) ∧
      Moves (.regDmAddr (.i 7) 0) (.i 7) 7 stored stored ∧
      Moves (.regData .astat 0x3FFF) .astat 0xFFFF stored stored :=
  ⟨stored_straight, rfl, .inl ⟨.m 3, rfl, .inl ⟨rfl, rfl, rfl⟩⟩,
    .inl ⟨.rx0, rfl, .inr ⟨.inl rfl, rfl, rfl⟩⟩, .inr (.inl ⟨0, rfl, ⟨rfl, rfl⟩, rfl⟩),
    .inr (.inr ⟨0x3FFF, rfl, by decide, rfl⟩)⟩

theorem witness_MoveIntoCounter :
    Straight start ∧ Moves (.regData .cntr 3) .cntr 3 start start ∧ start.cntr.loaded = false ∧
      (let s := (start.setCntr ⟨1, true⟩).setStk { start.stk with cntr := [1, 2, 3] }
       Straight s ∧ Moves (.regData .cntr 3) .cntr 3 s s ∧ s.cntr.loaded = true ∧
         s.stk.cntr.length < s.params.cntrDepth) ∧
      (let s := (start.setCntr ⟨1, true⟩).setStk { start.stk with cntr := [1, 2, 3, 4] }
       Straight s ∧ Moves (.regData .cntr 3) .cntr 3 s s ∧ s.params.cntrDepth ≤ s.stk.cntr.length) :=
  ⟨start_straight, .inr (.inr ⟨3, rfl, by decide, rfl⟩), rfl,
    ⟨straight_of (by decide) rfl, .inr (.inr ⟨3, rfl, by decide, rfl⟩), rfl, by decide⟩,
    ⟨straight_of (by decide) rfl, .inr (.inr ⟨3, rfl, by decide, rfl⟩), by decide⟩⟩

/-- The timer's source: the last one, edge-sensitive, IMASK bit 0. -/
abbrev timerSource : IntSource :=
  { bit := 0, vector := 0x0028, sense := .edge, force := some 8, clear := some 0 }

/-- A level-sensitive source. -/
abbrev levelSource : IntSource :=
  { bit := 8, vector := 0x0008, sense := .level, force := none, clear := none }

/-- A source whose ICNTL bit tells. -/
abbrev irqSource : IntSource :=
  { bit := 9, vector := 0x0004, sense := .icntl 2, force := some 15, clear := some 7 }

theorem sources_distinct : DistinctBits start.params.sources := by
  unfold DistinctBits; decide

theorem witness_WriteOfIfc :
    Straight start ∧ DistinctBits start.params.sources ∧
      timerSource ∈ start.params.sources ∧ levelSource ∈ start.params.sources ∧
      edgeSensitive start timerSource = true ∧ edgeSensitive start levelSource = false ∧
      (irqSource ∈ start.params.sources ∧ edgeSensitive start irqSource = false ∧
        edgeSensitive (start.setIcntl 4) irqSource = true) ∧
      Moves (.regData .ifc 0x0100) .ifc 0x0100 start start ∧ (0x0100#16).getLsbD 8 = true ∧
      (0x0100#16).getLsbD 0 = false ∧
      Moves (.regData .ifc 1) .ifc 1 start start ∧ (1#16).getLsbD 0 = true ∧
      (1#16).getLsbD 8 = false ∧ 15 < start.params.ifcWidth :=
  ⟨start_straight, sources_distinct, by decide, by decide, rfl, rfl, ⟨by decide, rfl, rfl⟩,
    .inr (.inr ⟨0x0100, rfl, by decide, rfl⟩), by decide, by decide,
    .inr (.inr ⟨1, rfl, by decide, rfl⟩), by decide, by decide, by decide⟩

theorem witness_DmMoves :
    Straight stored ∧ HasDm stored (dmEa ⟨0, 0⟩ stored) 7 ∧ RamDm stored 0x3FDF ∧
      Reads (.dreg .se) (value stored (.dreg .se)) stored stored ∧ (1#14) ≠ dmEa ⟨0, 0⟩ stored :=
  ⟨stored_straight, ⟨rfl, rfl⟩, rfl, .inl ⟨rfl, rfl, rfl⟩, by decide⟩

theorem stored_pm : HasPm stored (stored.idx.get 4) 0x000905 := ⟨rfl, ⟨_, rfl, rfl⟩⟩

theorem witness_PmMoves :
    Straight stored ∧ HasPm stored (stored.idx.get 4) 0x000905 ∧ RamPm stored (stored.idx.get 4) ∧
      (0x3FFF#14) ≠ stored.idx.get 4 :=
  ⟨stored_straight, stored_pm, rfl, by decide⟩

theorem witness_AddressGeneration :
    Straight start ∧ start.len.get 0 = 0 ∧ (start.setLen (start.len.set 0 8)).len.get 0 ≠ 0 ∧
      start.mode .bitRev = false ∧ (mstat 2 start).mode .bitRev = true ∧ Pair.inDag1 ⟨3, 0⟩ = true ∧
      Pair.inDag2 ⟨4, 7⟩ = true :=
  ⟨start_straight, by decide, by decide, by decide, by decide, by decide, by decide⟩

/-- A PC stack that is full but for `n` entries. -/
abbrev nearlyFull (n : Nat) : State :=
  start.setStk { start.stk with pc := List.replicate (16 - n) 3 }

theorem witness_JumpAndCall :
    evalCond .always (nearlyFull 1) = .ok (true, nearlyFull 1) ∧ ¬ AtLoopEnd (nearlyFull 1) ∧
      (nearlyFull 1).pc ≠ 0x3FFF#14 ∧
      (nearlyFull 1).stk.pc.length < (nearlyFull 1).params.pcDepth ∧
      (nearlyFull 0).params.pcDepth ≤ (nearlyFull 0).stk.pc.length ∧
      (start.setPc 0x3FFF#14).pc = 0x3FFF#14 ∧ ¬ AtLoopEnd (start.setPc 0x3FFF#14) :=
  ⟨rfl, open_of rfl, by decide, by decide, by decide, rfl, open_of rfl⟩

/-- Whatever the sample, one of the two forms is taken and the other is not. -/
theorem witness_JumpAndCallOnFlag :
    (¬ AtLoopEnd (nearlyFull 1) ∧ (nearlyFull 1).pc ≠ 0x3FFF#14 ∧
      (nearlyFull 1).stk.pc.length < (nearlyFull 1).params.pcDepth) ∧
    (¬ AtLoopEnd (nearlyFull 0) ∧ (nearlyFull 0).params.pcDepth ≤ (nearlyFull 0).stk.pc.length) ∧
    (¬ AtLoopEnd (start.setPc 0x3FFF#14) ∧ (start.setPc 0x3FFF#14).pc = 0x3FFF#14) ∧
      ∃ n : Bool, (if n then Config.fiSample 0 = false else Config.fiSample 0 = true) ∧
        ¬ (if !n then Config.fiSample 0 = false else Config.fiSample 0 = true) := by
  refine ⟨⟨open_of rfl, by decide, by decide⟩, ⟨open_of rfl, by decide⟩, ⟨open_of rfl, rfl⟩,
    !Config.fiSample 0, ?_⟩
  cases Config.fiSample 0 <;> simp

theorem witness_Returns :
    evalCond .always start = .ok (true, start) ∧ ¬ AtLoopEnd start ∧ start.stk.pc = [] ∧
      (let s := start.setStk { start.stk with pc := [3], sts := [⟨0, 0, 1⟩] }
       evalCond .always s = .ok (true, s) ∧ ¬ AtLoopEnd s ∧ s.stk.pc = 3 :: [] ∧
         s.stk.sts = ⟨0, 0, 1⟩ :: []) ∧
      (nearlyFull 15).stk.sts = [] ∧ (nearlyFull 15).stk.pc = 3 :: [] ∧
      evalCond .eq start = .ok (false, start) ∧ start.pc ≠ 0x3FFF#14 :=
  ⟨rfl, open_of rfl, rfl, ⟨rfl, open_of rfl, rfl, rfl⟩, rfl, rfl, rfl, by decide⟩

theorem witness_DoUntil :
    ¬ AtLoopEnd start ∧ start.pc.toNat < (1#14).toNat ∧ (∀ e ∈ start.stk.loop, e.last ≠ 1#14) ∧
      start.stk.pc.length < start.params.pcDepth ∧
      start.stk.loop.length < start.params.loopDepth ∧ (0#14).toNat ≤ start.pc.toNat ∧
      (¬ AtLoopEnd (nearlyFull 0) ∧ (nearlyFull 0).params.pcDepth ≤ (nearlyFull 0).stk.pc.length) ∧
      (let s := start.setStk { start.stk with loop := [⟨9, .ce⟩, ⟨8, .ce⟩, ⟨7, .ce⟩, ⟨6, .ce⟩] }
       ¬ AtLoopEnd s ∧ (∀ e ∈ s.stk.loop, e.last ≠ 1#14) ∧ s.stk.pc.length < s.params.pcDepth ∧
         s.params.loopDepth ≤ s.stk.loop.length) := by
  refine ⟨open_of rfl, by decide, by decide, by decide, by decide, by decide,
    ⟨open_of rfl, by decide⟩, ?_, by decide, by decide, by decide⟩
  rintro ⟨e, rest, h, h2⟩
  injection h with h3
  subst h3
  exact absurd h2 (by decide)

theorem witness_IdleWaits :
    Straight (start.setIdle true) ∧ (start.setIdle true).params.hasIdleN = true ∧
      (start.setIdle true).idle = true ∧ (start.setIdle true).env = [] ∧
      deliverable (start.setIdle true) = none ∧
      Straight { start with params := { start.params with hasIdleN := false } } :=
  ⟨straight_of (by decide) rfl, rfl, rfl, rfl, rfl, straight_of (by decide) rfl⟩

theorem witness_FlowAtLoopEndRefused :
    isFlow (.jumpAddr 5 .eq) = true ∧ Exists (.jumpAddr 5 .eq) (atEnd .ce 2 []) ∧
      AtLoopEnd (atEnd .ce 2 []) :=
  ⟨rfl, exists_of rfl rfl (by intro _ _ h; cases h) (by intro _ h; cases h) (by decide) (by decide) _,
    atEnd_isEnd _ _ _⟩

theorem witness_NopOnlyPc :
    Straight (start.setPc 0x3FFE#14) ∧
      ((atEnd .forever 0 []).pc ≠ 0x3FFF#14 ∧
        (atEnd .forever 0 []).stk.loop = ⟨(atEnd .forever 0 []).pc, .forever⟩ :: [] ∧
        (atEnd .forever 0 []).stk.pc = 5 :: []) ∧
      (condOf (.addXY .ar .ax0 .ay0 .eq) = some .eq ∧
        Exists (.addXY .ar .ax0 .ay0 .eq) (atEnd .ce 2 []) ∧
        evalCond .eq (atEnd .ce 2 []) = .ok (false, atEnd .ce 2 []) ∧
        isFlow (.addXY .ar .ax0 .ay0 .eq) = false) ∧
      (condOf (.rts .lt) = some .lt ∧ evalCond .lt start = .ok (false, start) ∧ ¬ AtLoopEnd start) :=
  ⟨last_straight, ⟨by decide, rfl, rfl⟩, ⟨rfl, exists_plain _, rfl, rfl⟩, ⟨rfl, rfl, open_of rfl⟩⟩

/-- All four stacks with entries. -/
abbrev piled : State :=
  start.setStk { pc := [5], cntr := [10], loop := [⟨6, .ce⟩], sts := [⟨5, 0x10, 3⟩] }

theorem piled_open : ¬ AtLoopEnd piled := by
  rintro ⟨e, rest, h, h2⟩
  injection h with h3
  subst h3
  exact absurd h2 (by decide)

/-- Two loops, at the end of the outer one. -/
abbrev nested : State :=
  (start.setPc 6).setStk { start.stk with pc := [3, 2], loop := [⟨4, .ce⟩, ⟨6, .eq⟩] }

theorem witness_StackClauses :
    (let s := start.setStk { start.stk with sts := List.replicate 12 ⟨0, 0, 0⟩ }
     s.params.stsDepth ≤ s.stk.sts.length) ∧
      start.stk.sts = [] ∧ start.stk.cntr = [] ∧ start.stk.pc = [] ∧ start.stk.loop = [] ∧
      Straight start ∧
      (let s := start.setStk { start.stk with sts := List.replicate 11 ⟨0, 0, 0⟩ }
       s.stk.sts.length < s.params.stsDepth) ∧
      Straight piled ∧ piled.stk.sts = ⟨5, 0x10, 3⟩ :: [] ∧ piled.stk.cntr = 10 :: [] ∧
      piled.stk.pc = 5 :: [] ∧
      (piled.pc ≠ 0x3FFF#14 ∧ piled.stk.loop = ⟨6, .ce⟩ :: []) ∧
      (nested.pc ≠ 0x3FFF#14 ∧ nested.stk.loop = ⟨4, .ce⟩ :: [⟨6, .eq⟩] ∧ (6#14) = nested.pc ∧
        Term.eq ≠ .ce ∧ nested.stk.pc = 3 :: [2]) :=
  ⟨by decide, rfl, rfl, rfl, rfl, start_straight, by decide, ⟨by decide, piled_open⟩, rfl, rfl, rfl,
    ⟨by decide, rfl⟩, ⟨by decide, rfl, rfl, by decide, rfl⟩⟩

theorem witness_StackControlTogether :
    piled.pc ≠ 0x3FFF#14 ∧ popped true piled.stk.loop = [] ∧ piled.stk.cntr ≠ [] ∧
      piled.stk.pc ≠ [] ∧ piled.stk.loop ≠ [] ∧ piled.stk.sts ≠ [] ∧
      piled.stk.sts.length < piled.params.stsDepth := by decide

theorem witness_ModeControl : Straight (mstat 0x7F start) := straight_of (by decide) rfl

theorem witness_FlagOutPins :
    When .always start start ∧ Exists (.flagOut ⟨.set, .reset, .toggle, .keep⟩ .always) start :=
  ⟨start_when, ⟨(fun h => nomatch h), (fun _ h => nomatch h), (fun _ _ _ => .inr rfl),
    (fun _ h => nomatch h), (fun h => by rcases h with h | h <;> cases h)⟩⟩

theorem witness_InterruptEnable : Straight start ∧ start.params.hasIntsInstr = true :=
  ⟨start_straight, rfl⟩

theorem witness_TwoReadForms :
    Straight stored ∧ Comp.notFeedback (.mac .mrRnd .mr) = true ∧
      HasDm stored (dmEa ⟨0, 0⟩ stored) 7 ∧ HasPm stored (stored.idx.get 4) 0x000905 :=
  ⟨stored_straight, rfl, ⟨rfl, rfl⟩, stored_pm⟩

theorem witness_ComputeWithLoad :
    Straight stored ∧ Machine.Comp.writes (.alu (.absX .ar) .ar) .se = false ∧
      Machine.ShiftFn.writes (.exp .hi .si) .sr1 = false ∧ HasDm stored (dmEa ⟨0, 0⟩ stored) 7 ∧
      HasPm stored (stored.idx.get 4) 0x000905 :=
  ⟨stored_straight, rfl, rfl, ⟨rfl, rfl⟩, stored_pm⟩

theorem witness_ComputeWithWrite :
    Straight stored ∧ RamDm stored (dmEa ⟨0, 0⟩ stored) ∧ RamPm stored (stored.idx.get 4) :=
  ⟨stored_straight, rfl, rfl⟩

/-- The timer's request and one of higher priority, both unmasked. -/
abbrev requested : State := (start.setPending 0x0011).setImask 0x03FF

/-- A member without the options, and one whose constants are none. -/
abbrev plain : State :=
  { start with params := { start.params with hasAluConstants := false, hasFlagPins := false, hasIdleN := false, hasIntsInstr := false } }

theorem witness_RefusedForms :
    (start.params.hasAluConstants = true ∧ (3 : Word) ∉ start.params.aluConstants ∧
      constantOf (.addXK .ar .ax0 (.other 3) .always) = some 3 ∧ constantOf (.passK .ar (.pow 3) .always) = some (pow2 3) ∧
      (let s := { start with params := { start.params with aluConstants := [] } }
       s.params.hasAluConstants = true ∧ pow2 3 ∉ s.params.aluConstants)) ∧
    (plain.params.hasAluConstants = false ∧ constForm (.pass0 .ar .always) = true) ∧
    (plain.params.hasFlagPins = false ∧ FlagOp.set ≠ .keep) ∧ plain.params.hasIdleN = false ∧
    plain.params.hasIntsInstr = false :=
  ⟨⟨rfl, by decide, rfl, rfl, rfl, by decide⟩, ⟨rfl, rfl⟩, ⟨rfl, by decide⟩, rfl, rfl⟩

theorem witness_HighestPriorityDelivered :
    (∃ src, deliverable requested = some src ∧ src.bit = 4) ∧
      ∃ pre src post, requested.ints = true ∧ requested.params.sources = pre ++ src :: post ∧
        Ready requested src ∧ ∀ x ∈ pre, ¬ Ready requested x :=
  ⟨⟨_, rfl, rfl⟩, (Config.sources2181.take 5), _, (Config.sources2181.drop 6), rfl, rfl,
    by unfold Ready; decide, by unfold Ready; decide⟩

theorem witness_InterruptEntry :
    CoreTurn requested requested ∧
      CoreTurn (requested.setEnv [none]) ((requested.setEnv [none]).setEnv []) ∧
      (∃ src, deliverable requested = some src ∧ src ∈ requested.params.sources) ∧
      requested.stk.pc.length < requested.params.pcDepth ∧
      requested.stk.sts.length < requested.params.stsDepth ∧ requested.icntl.getLsbD 4 = false ∧
      (requested.setIcntl 0x10).icntl.getLsbD 4 = true ∧
      (∃ src, deliverable (requested.setIcntl 0x10) = some src) ∧
      DistinctBits (requested.setIcntl 0x10).params.sources ∧
      (let s := requested.setStk { requested.stk with pc := List.replicate 16 3 }
       s.params.pcDepth ≤ s.stk.pc.length ∧ (deliverable s).isSome = true) ∧
      (let s := requested.setStk { requested.stk with sts := List.replicate 12 ⟨0, 0, 0⟩ }
       s.params.stsDepth ≤ s.stk.sts.length ∧ (deliverable s).isSome = true) :=
  ⟨.inl ⟨rfl, rfl⟩, .inr ⟨[], rfl, rfl⟩, ⟨_, rfl, by decide⟩, by decide, by decide, by decide,
    by decide, ⟨_, rfl⟩, sources_distinct, by decide, by decide⟩

theorem witness_RtiUndoesEntry :
    ∃ t, takeInterrupt timerSource start = .ok t ∧ ¬ AtLoopEnd t := ⟨_, rfl, open_of rfl⟩

theorem witness_OtherAgents :
    timerSource ∈ stored.params.sources ∧ levelSource ∈ stored.params.sources ∧
      DistinctBits stored.params.sources ∧
      (stored.setEnv [some (.request 0)]).env = some (.request timerSource.bit) :: [] ∧
      (stored.setEnv [some (.withdraw 8)]).env = some (.withdraw levelSource.bit) :: [] ∧
      stored.params.hasDma = true ∧ RamDm stored 0x3FDF ∧ RamPm stored 0x3FFF ∧
      (let s := (start.setPm [(0, .word 1 true)]).setEnv [some (.busWritePm 0 2)]
       s.env = some (.busWritePm 0 2) :: [] ∧ RamPm s 0 ∧
         Memory.lookup s.pm (0#14).toNat = some (.word 1 true)) ∧
      (let s := ({ start with params := { start.params with hasDma := false } }).setEnv
        [some (.dmaWriteDm 0 1)]
       s.params.hasDma = false ∧ s.env = some (.dmaWriteDm 0 1) :: []) ∧
      RamDm stored (dmEa ⟨0, 0⟩ stored) ∧ HasDm stored (dmEa ⟨0, 0⟩ stored) 7 :=
  ⟨by decide, by decide, sources_distinct, rfl, rfl, rfl, rfl, rfl, ⟨rfl, rfl, rfl⟩, ⟨rfl, rfl⟩, rfl,
    ⟨rfl, rfl⟩⟩

theorem nops_inv : Inv nops := by
  refine ⟨?_, ?_, ?_, ⟨fun k _ => ?_, fun k _ => ?_, ?_⟩, fun b h => ?_⟩
  · unfold MemoryOk; decide
  · unfold MemoryOk; decide
  · unfold StacksOk; decide
  · exact BitVec.getLsbD_zero
  · exact BitVec.getLsbD_zero
  · exact fun e h => nomatch h
  · exact absurd h (by rw [show nops.pending = 0#16 from rfl, BitVec.getLsbD_zero]; decide)

theorem witness_StepKeepsInv : Inv nops ∧ step nops = .next nops.stepped := ⟨nops_inv, rfl⟩

theorem witness_ParametersFixed : step nops = .next nops.stepped := rfl

theorem witness_InstructionFrames :
    exec .nop start = .next start.stepped ∧ start.mode .secReg = false ∧
      (mstat 1 start).mode .secReg = true ∧ writesReg .ifc .nop = false ∧ Instr.nop ≠ .enaInts ∧
      Instr.nop ≠ .disInts ∧ Instr.nop ≠ .idle ∧ ∀ n, Instr.nop ≠ .idleN n :=
  ⟨rfl, by decide, by decide, rfl, by decide, by decide, by decide, fun _ h => nomatch h⟩

end Sys2Proof.Tests
end

section
/-! PROOFS of the statements about the state: the values at reset, what no instruction but a few
changes, and the launch parameters (spec/10_state.md R39, R41 to R44). One record, the frame, holds the
fields in question; every shared operation is shown once to leave it alone. -/

namespace Sys2Proof.Machine

open Sys2Proof.Claims

/-! ### The frame of a state -/

/-- The fields that most instructions leave alone: the register set that is not selected, and the
fields of the interrupts, the other agents and the launch. -/
structure Frame where
  unselected : Bank
  pending : Word
  ints : Bool
  idle : Bool
  env : List (Option EnvMove)
  params : Params

/-- The frame of a state, with `sec` the selection: the secondary set is selected where it is true. -/
def State.frame (s : State) (sec : Bool) : Frame where
  unselected := if sec then s.primary else s.secondary
  pending := s.pending
  ints := s.ints
  idle := s.idle
  env := s.env
  params := s.params

/-- `t` has the frame of `s`, for the register set that `s` selects. -/
def SameFrame (s t : State) : Prop := t.frame (s.mode .secReg) = s.frame (s.mode .secReg)

/-- `t` has the frame of `s` and selects the same register set, so that what follows it writes the
set that `s` selects. -/
structure SameFrameSet (s t : State) : Prop where
  frame : SameFrame s t
  secReg : t.mode .secReg = s.mode .secReg

/-- What follows in the same register set may write it too. -/
theorem SameFrameSet.trans {s u t : State} (h : SameFrameSet s u) (h2 : SameFrame u t) :
    SameFrame s t := by
  unfold SameFrame at h2 ⊢
  rw [h.secReg] at h2
  exact h2.trans h.frame

/-- What leaves the frame alone whichever set is selected may follow anything. -/
theorem SameFrame.trans_frame {s u t : State} (h : SameFrame s u)
    (h2 : ∀ sec, t.frame sec = u.frame sec) : SameFrame s t := (h2 _).trans h

/-- A write of the selected register set keeps the frame (R39). -/
theorem sameFrame_setBank (s : State) (b : Bank) : SameFrame s (s.setBank b) := by
  obtain ⟨hsecondary, hprimary⟩ := s.setBank_other b
  unfold SameFrame
  cases hsec : s.mode .secReg
  · simp [State.frame, hsecondary hsec]
  · simp [State.frame, hprimary hsec]

/-! ### The shared operations (R37, R124, R300) -/

theorem SameButCounter.frame {s t : State} (h : SameButCounter s t) (sec : Bool) :
    t.frame sec = s.frame sec := by
  simp [State.frame, h.primary, h.secondary, h.pending, h.ints, h.idle, h.env, h.params]

/-- The evaluation of an IF condition keeps the frame and the selection. -/
theorem evalCond_frame {c : Cond} {b : Bool} {s t : State} (h : evalCond c s = .ok (b, t)) :
    SameFrameSet s t :=
  ⟨(evalCond_same h).frame _, State.mode_congr (evalCond_same h).mstat _⟩

section stackOperations
variable {s t : State} (sec : Bool)

theorem dropPc_frame (h : dropPc s = .ok t) : t.frame sec = s.frame sec := by
  obtain ⟨_, _, -, rfl⟩ := dropPc_ok.mp h
  rfl

theorem dropLoop_frame (h : dropLoop s = .ok t) : t.frame sec = s.frame sec := by
  obtain ⟨_, _, -, rfl⟩ := dropLoop_ok.mp h
  rfl

theorem popCntr_frame (h : popCntr s = .ok t) : t.frame sec = s.frame sec := by
  obtain ⟨_, _, -, rfl⟩ := popCntr_ok.mp h
  rfl

theorem popSts_frame (h : popSts s = .ok t) : t.frame sec = s.frame sec := by
  obtain ⟨_, _, -, rfl⟩ := popSts_ok.mp h
  rfl

theorem pushSts_frame (h : pushSts s = .ok t) : t.frame sec = s.frame sec := by
  obtain ⟨-, rfl⟩ := pushSts_ok.mp h
  rfl

theorem optionally_frame {b : Bool} {f : State → Eff State}
    (hf : ∀ {u v}, f u = .ok v → v.frame sec = u.frame sec) (h : optionally b f s = .ok t) :
    t.frame sec = s.frame sec := by
  have h := optionally_ok.mp h
  cases b
  · rw [show t = s from h]
  · exact hf h

theorem stsOp_frame {o : Option StsOp} (h : stsOp o s = .ok t) : t.frame sec = s.frame sec := by
  match o with
  | none => cases h; rfl
  | some .push => exact pushSts_frame sec h
  | some .pop => exact popSts_frame sec h

theorem stackOps_frame {o : StackOps} (h : stackOps o s = .ok t) : t.frame sec = s.frame sec := by
  obtain ⟨u, v, w, hsts, hcntr, hpc, hloop⟩ := stackOps_ok.mp h
  calc t.frame sec
    _ = w.frame sec := optionally_frame sec (dropLoop_frame sec) hloop
    _ = v.frame sec := optionally_frame sec (dropPc_frame sec) hpc
    _ = u.frame sec := optionally_frame sec (popCntr_frame sec) hcntr
    _ = s.frame sec := stsOp_frame sec hsts

/-- The sequential pc with the loop-end check keeps the frame. -/
theorem advance_frame (h : advance s = .ok t) : t.frame sec = s.frame sec := by
  obtain ⟨-, ⟨-, rfl⟩ | ⟨e, _, b, u, -, -, hterm, hend⟩⟩ := advance_ok h
  · rfl
  · have hu : u.frame sec = s.frame sec := (evalTerm_same hterm).frame sec
    obtain ⟨-, v, hloop, w, hpc, rfl⟩ | ⟨-, _, _, -, rfl⟩ := hend
    · exact (dropPc_frame sec hpc).trans ((dropLoop_frame sec hloop).trans hu)
    · exact hu

end stackOperations

/-- A sequential instruction leaves the frame that its own effect leaves. -/
theorem sequential_frame {e : Eff State} {t : State} (h : sequential e = .next t) :
    ∃ u, e = .ok u ∧ ∀ sec, t.frame sec = u.frame sec := by
  obtain ⟨u, he, hadv⟩ := sequential_next.mp h
  exact ⟨u, he, fun sec => advance_frame sec hadv⟩

/-- A sequential instruction keeps the frame where its effect does. -/
theorem sequential_sameFrame {e : Eff State} {s t : State}
    (he : ∀ u, e = .ok u → SameFrame s u) (h : sequential e = .next t) : SameFrame s t := by
  obtain ⟨u, hu, hfr⟩ := sequential_frame h
  exact (he u hu).trans_frame hfr

/-- A sequential instruction whose effect is one state keeps the frame where that state has it. -/
theorem sequential_ok_sameFrame {s t u : State} (h : sequential (.ok u) = .next t)
    (hu : SameFrame s u) : SameFrame s t :=
  sequential_sameFrame (fun _ e => by cases e; exact hu) h

/-- A conditional instruction keeps the frame where its effect does (R125). -/
theorem ifThen_sameFrame {c : Cond} {f : State → Eff State} {s t : State}
    (hf : ∀ u v, f u = .ok v → SameFrame u v) (h : ifThen c f s = .ok t) : SameFrame s t := by
  obtain ⟨b, u, hc, h⟩ := ifThen_ok.mp h
  cases b
  · rw [show t = u from h]
    exact (evalCond_frame hc).frame
  · exact (evalCond_frame hc).trans (hf u t h)

/-- A sequential instruction under a condition keeps the frame where the update it makes does. -/
theorem sequential_ifThen_sameFrame {c : Cond} {f : State → State} {s t : State}
    (hf : ∀ u, SameFrame u (f u)) (h : sequential (ifThen c (fun u => .ok (f u)) s) = .next t) :
    SameFrame s t := by
  refine sequential_sameFrame (fun _ => ifThen_sameFrame fun u v e => ?_) h
  cases e
  exact hf u

/-! ### The computation units (R170, R220, R250) -/

theorem sameFrame_writeAlu (z : AluDest) (o : AluOut) (s : State) : SameFrame s (writeAlu z o s) := by
  cases z <;> exact sameFrame_setBank s _

theorem sameFrame_writeMac (z : MacDest) (r : Acc) (s : State) : SameFrame s (writeMac z r s) := by
  cases z <;> exact sameFrame_setBank s _

theorem sameFrame_evalShift (f : ShiftFn) (s t : State) : SameFrame t (evalShift f s t) := by
  cases f <;> exact sameFrame_setBank t _

theorem sameFrame_evalComp (o : Comp) (s t : State) : SameFrame t (evalComp o s t) := by
  cases o with
  | alu f z => exact sameFrame_writeAlu z _ t
  | mac f z => exact sameFrame_writeMac z _ t

theorem sameFrame_flagOps (o : FlagOps) (s : State) : SameFrame s (flagOps o s) := by
  unfold flagOps
  split <;> rfl

theorem sameFrame_saturateMr (s : State) : SameFrame s (saturateMr s) := by
  unfold saturateMr
  split
  · exact sameFrame_setBank s _
  · rfl

section forms
variable {c : Cond} {s t : State}

theorem aluIf_frame {z : AluDest} {f : State → AluOut} (h : aluIf c z f s = .next t) :
    SameFrame s t :=
  sequential_ifThen_sameFrame (fun u => sameFrame_writeAlu z (f u) u) h

theorem aluConstIf_frame {k : Word} {z : AluDest} {f : State → AluOut}
    (h : aluConstIf k c z f s = .next t) : SameFrame s t := by
  obtain ⟨-, -, h⟩ := aluConstIf_next.mp h
  exact aluIf_frame h

theorem aluOptionIf_frame {z : AluDest} {f : State → AluOut} (h : aluOptionIf c z f s = .next t) :
    SameFrame s t := aluIf_frame (aluOptionIf_next.mp h).2

theorem macIf_frame {z : MacDest} {f : State → Acc} (h : macIf c z f s = .next t) :
    SameFrame s t :=
  sequential_ifThen_sameFrame (fun u => sameFrame_writeMac z (f u) u) h

theorem shiftIf_frame {f : ShiftFn} (h : shiftIf c (evalShift f) s = .next t) : SameFrame s t :=
  sequential_ifThen_sameFrame (fun u => sameFrame_evalShift f u u) h

end forms

/-! ### The data moves and the clauses beside them (R88, R89, R151) -/

section moves
variable {s t : State} {p : Pair}

/-- A write of a data register keeps the frame and the selection. -/
theorem sameFrameSet_wrD (d : DReg) (v : Word) (s : State) : SameFrameSet s (wrD d v s) :=
  ⟨sameFrame_setBank s _, State.mode_congr (wrD_mstat d v s) _⟩

theorem loadDm_frame {d : DReg} (h : loadDm d p s = .ok t) : SameFrameSet s t := by
  obtain ⟨v, -, rfl⟩ := loadDm_ok.mp h
  obtain ⟨hframe, hsecReg⟩ := sameFrameSet_wrD d v (postModify p s)
  exact ⟨hframe, hsecReg⟩

theorem loadPm_frame {d : DReg} (h : loadPm d p s = .ok t) : SameFrameSet s t := by
  obtain ⟨w, -, rfl⟩ := loadPm_ok.mp h
  obtain ⟨hframe, hsecReg⟩ := sameFrameSet_wrD d (w.extractLsb' Config.PXW Config.W)
    ((postModify p s).setPx (w.extractLsb' 0 Config.PXW))
  exact ⟨hframe, hsecReg⟩

theorem storeDm_frame {v : Word} (h : storeDm p v s = .ok t) : SameFrameSet s t := by
  obtain ⟨u, hu, rfl⟩ := storeDm_ok.mp h
  obtain ⟨-, rfl⟩ := writeDm_ok.mp hu
  exact ⟨rfl, rfl⟩

theorem storePm_frame {v : Word} (h : storePm p v s = .ok t) : SameFrameSet s t := by
  obtain ⟨u, hu, rfl⟩ := storePm_ok.mp h
  obtain ⟨-, rfl⟩ := writeCell_ok.mp hu
  exact ⟨rfl, rfl⟩

/-- The two reads write a register each, the second over what the first leaves. -/
theorem twoReads_frame {d : XDual} {e : YDual} {q : Pair} (h : twoReads d p e q s = .ok t) :
    SameFrameSet s t := by
  obtain ⟨w, v, -, -, rfl⟩ := twoReads_ok.mp h
  have h1 := sameFrameSet_wrD (xDualReg d) v (postModify q (postModify p s))
  have h2 := sameFrameSet_wrD (yDualReg e) (w.extractLsb' Config.PXW Config.W)
    ((wrD (xDualReg d) v (postModify q (postModify p s))).setPx (w.extractLsb' 0 Config.PXW))
  exact ⟨h1.trans h2.frame, h2.secReg.trans h1.secReg⟩

/-- A computation beside a move keeps the frame: it writes the register set that the move selects. -/
theorem sequential_withClause_frame {w : State → State} {m : State → Eff State}
    (hm : ∀ {u}, m s = .ok u → SameFrameSet s u) (hw : ∀ u, SameFrame u (w u))
    (h : sequential (withClause w m s) = .next t) : SameFrame s t := by
  refine sequential_sameFrame (fun x hx => ?_) h
  obtain ⟨u, hu, rfl⟩ := withClause_ok.mp hx
  exact (hm hu).trans (hw u)

theorem dregMove_frame {d r : DReg} {u : State}
    (h : (Except.ok (wrD d (rdD r s) s) : Eff State) = .ok u) : SameFrameSet s u := by
  cases h
  exact sameFrameSet_wrD d (rdD r s) s

theorem storeDirect_frame {a : Addr} {r : Reg} (h : storeDirect a r s = .ok t) : SameFrame s t := by
  obtain ⟨⟨v, u⟩, hr, hw⟩ := bind_ok.mp h
  obtain ⟨-, rfl⟩ := writeDm_ok.mp hw
  obtain rfl | rfl := readReg_same hr <;> rfl

end moves

/-! ### The control transfers (R301 to R307) -/

section transfers
variable {c : Cond} {f : State → Eff State} {s t : State}

theorem transfer_takeIf_frame (hf : ∀ u v, f u = .ok v → ∀ sec, v.frame sec = u.frame sec)
    (h : transfer (takeIf c f s) s = .next t) : SameFrame s t := by
  obtain ⟨-, h⟩ := transfer_next.mp h
  obtain ⟨b, u, hc, h⟩ := takeIf_ok.mp h
  have hu := (evalCond_frame hc).frame
  cases b
  · obtain ⟨-, rfl⟩ := h
    exact hu
  · exact hu.trans_frame (hf u t h)

theorem transfer_takeIfFlag_frame {n : Bool}
    (hf : ∀ u v, f u = .ok v → ∀ sec, v.frame sec = u.frame sec)
    (h : transfer (takeIfFlag n f s) s = .next t) : SameFrame s t := by
  obtain ⟨-, h⟩ := transfer_next.mp h
  obtain ⟨-, h⟩ | ⟨-, -, rfl⟩ := takeIfFlag_ok.mp h
  · exact hf (sampleFi s) t h _
  · rfl

end transfers

theorem callTo_frame {a : Addr} {s t : State} (h : callTo a s = .ok t) (sec : Bool) :
    t.frame sec = s.frame sec := by
  obtain ⟨-, -, rfl⟩ := callTo_ok.mp h
  rfl

theorem returnFromCall_frame {s t : State} (h : returnFromCall s = .ok t) (sec : Bool) :
    t.frame sec = s.frame sec := by
  obtain ⟨_, _, -, rfl⟩ := returnFromCall_ok.mp h
  rfl

/-- A return from an interrupt brings MSTAT back, and writes neither register set (R386). -/
theorem returnFromInterrupt_frame {s t : State} (h : returnFromInterrupt s = .ok t) (sec : Bool) :
    t.frame sec = s.frame sec := by
  obtain ⟨_, _, _, _, -, -, rfl⟩ := returnFromInterrupt_ok.mp h
  rfl

theorem transfer_startLoop_frame {a : Addr} {x : Term} {s t : State}
    (h : transfer (startLoop a x s) s = .next t) : SameFrame s t := by
  obtain ⟨-, h⟩ := transfer_next.mp h
  obtain ⟨-, -, -, -, -, rfl⟩ := startLoop_ok.mp h
  rfl

/-! ### The instructions that change a field of the frame (R30, R41, R42) -/

/-- IDLE makes the core idle, and nothing else of the frame changes (R309). -/
theorem transfer_goIdle_frame {s t : State} (h : transfer (goIdle s) s = .next t) (sec : Bool) :
    t.frame sec = { s.frame sec with idle := true } := by
  obtain ⟨-, h⟩ := transfer_next.mp h
  obtain ⟨-, rfl⟩ := goIdle_ok.mp h
  rfl

/-- ENA INTS and DIS INTS write the global enable, and nothing else of the frame (R358, R359). -/
theorem sequential_setInts_frame {b : Bool} {s t : State}
    (h : sequential (.ok (s.setInts b)) = .next t) (sec : Bool) :
    t.frame sec = { s.frame sec with ints := b } := by
  obtain ⟨u, hu, hfr⟩ := sequential_frame h
  cases hu
  exact hfr sec

/-- What a MOVE to `d` leaves of the frame: all but the pending requests, and those too unless `d` is
IFC (R30, R383). -/
structure MoveFrame (d : Reg) (s t : State) : Prop where
  frame : t.frame (s.mode .secReg) = { s.frame (s.mode .secReg) with pending := t.pending }
  pending : d ≠ .ifc → t.pending = s.pending

theorem SameFrame.moveFrame {d : Reg} {s t : State} (h : SameFrame s t) : MoveFrame d s t :=
  have hp : t.pending = s.pending := congrArg Frame.pending h
  ⟨by rw [hp]; exact h, fun _ => hp⟩

theorem writeCntr_frame {v : Addr} {s t : State} (h : writeCntr v s = .ok t) : SameFrame s t := by
  obtain ⟨-, rfl⟩ | ⟨-, -, rfl⟩ := writeCntr_ok.mp h <;> rfl

/-- A write of a register: of those that answer, only IFC's is not of the selected set or of a field
outside the frame (R281, R291). -/
theorem writeReg_frame {d : Reg} {v : Word} {s t : State} (h : writeReg d v s = .ok t) :
    MoveFrame d s t := by
  cases d with
  | dreg d => cases h; exact (sameFrameSet_wrD d v s).frame.moveFrame
  | sb => cases h; exact (sameFrame_setBank s _).moveFrame
  | cntr => exact (writeCntr_frame h).moveFrame
  | ifc =>
    cases h
    exact ⟨rfl, fun hd => absurd rfl hd⟩
  | sstat => cases h
  | _ => cases h; exact SameFrame.moveFrame rfl

theorem moveReg_frame {d r : Reg} {s t : State} (h : moveReg d r s = .ok t) : MoveFrame d s t := by
  obtain ⟨⟨v, u⟩, hr, hw⟩ := bind_ok.mp h
  have hu := writeReg_frame hw
  obtain rfl | rfl := readReg_same hr
  · exact hu
  · exact ⟨hu.frame, hu.pending⟩

theorem loadDirect_frame {d : Reg} {a : Addr} {s t : State} (h : loadDirect d a s = .ok t) :
    MoveFrame d s t := by
  obtain ⟨v, -, hw⟩ := bind_ok.mp h
  exact writeReg_frame hw

theorem sequential_moveFrame {d : Reg} {e : Eff State} {s t : State}
    (he : ∀ {u}, e = .ok u → MoveFrame d s u) (h : sequential e = .next t) : MoveFrame d s t := by
  obtain ⟨u, hu, hfr⟩ := sequential_frame h
  obtain ⟨hframe, hpending⟩ := he hu
  have hp : t.pending = u.pending := congrArg Frame.pending (hfr false)
  exact ⟨by rw [hfr, hframe, hp], fun hd => hp.trans (hpending hd)⟩

/-! ### Every instruction -/

/-- What the instruction `i` leaves of the frame `f`, with `g` the frame after it. -/
structure InstrFrame (i : Instr) (f g : Frame) : Prop where
  unselected : g.unselected = f.unselected
  pending : writesReg .ifc i = false → g.pending = f.pending
  ints : i ≠ .enaInts → i ≠ .disInts → g.ints = f.ints
  idle : i ≠ .idle → (∀ n, i ≠ .idleN n) → g.idle = f.idle
  env : g.env = f.env
  params : g.params = f.params

section instrFrame
variable {i : Instr} {f g : Frame}

theorem InstrFrame.of_eq (h : g = f) : InstrFrame i f g := by
  subst h
  exact ⟨rfl, fun _ => rfl, fun _ _ => rfl, fun _ _ => rfl, rfl, rfl⟩

theorem InstrFrame.of_ints {b : Bool} (hi : i = .enaInts ∨ i = .disInts)
    (h : g = { f with ints := b }) : InstrFrame i f g := by
  subst h
  exact ⟨rfl, fun _ => rfl, fun he hd => (hi.elim he hd).elim, fun _ _ => rfl, rfl, rfl⟩

theorem InstrFrame.of_idle {b : Bool} (hi : i = .idle ∨ ∃ n, i = .idleN n)
    (h : g = { f with idle := b }) : InstrFrame i f g := by
  subst h
  exact ⟨rfl, fun _ => rfl, fun _ _ => rfl,
    fun hidle hidleN => (hi.elim hidle fun ⟨n, hn⟩ => hidleN n hn).elim, rfl, rfl⟩

theorem MoveFrame.instrFrame {d : Reg} {s t : State} (hi : writesReg .ifc i = (d == .ifc))
    (h : MoveFrame d s t) :
    InstrFrame i (s.frame (s.mode .secReg)) (t.frame (s.mode .secReg)) := by
  rw [h.frame]
  refine ⟨rfl, fun hw => h.pending ?_, fun _ _ => rfl, fun _ _ => rfl, rfl, rfl⟩
  rintro rfl
  rw [hi] at hw
  exact absurd hw (by decide)

end instrFrame

/-- An instruction with a next state leaves of the frame what `InstrFrame` says: the constructors by
family, each with the lemma about the operation it shares. -/
theorem exec_frame {i : Instr} {s t : State} (h : exec i s = .next t) :
    InstrFrame i (s.frame (s.mode .secReg)) (t.frame (s.mode .secReg)) := by
  cases i with
  | addXY | addXC | addXYC | subXY | subXYC | subXC | subYX | subYXC | negXC | andXY | orXY | xorXY
  | passX | passY | negX | negY | notX | notY | absX | incY | decY => exact .of_eq (aluIf_frame h)
  | addXK | addXKC | addXNK | addXNKC | subXK | subXKC | subXNK | subXNKC | subKX | subKXC | subNKX
  | subNKXC | andXK | andXNK | orXK | orXNK | xorXK | xorXNK | pass1 | passM1 | passK | passNK =>
    exact .of_eq (aluConstIf_frame h)
  | tstbit | setbit | clrbit | tglbit | pass0 => exact .of_eq (aluOptionIf_frame h)
  | divs | divq => exact .of_eq (sequential_ok_sameFrame h (sameFrame_setBank s _))
  | noneAlu => exact .of_eq (sequential_ok_sameFrame (needs_next.mp h).2 rfl)
  | mulRnd | mulSs | mulSu | mulUs | mulUu | macRnd | macSs | macSu | macUs | macUu | msubRnd | msubSs
  | msubSu | msubUs | msubUu | square | mrZero | mrMr | mrMrRnd => exact .of_eq (macIf_frame h)
  | satMr => exact .of_eq (sequential_ok_sameFrame h (sameFrame_saturateMr s))
  | ashift | lshift | norm | expHi | expHix | expLo | expadj => exact .of_eq (shiftIf_frame h)
  | ashiftImm | lshiftImm => exact .of_eq (sequential_ok_sameFrame h (sameFrame_setBank s _))
  | regReg d r => exact (sequential_moveFrame moveReg_frame h).instrFrame rfl
  | regDmAddr d a => exact (sequential_moveFrame loadDirect_frame h).instrFrame rfl
  | regData d v => exact (sequential_moveFrame writeReg_frame h).instrFrame rfl
  | dregDm => exact .of_eq (sequential_sameFrame (fun _ e => (loadDm_frame e).frame) h)
  | dregPm => exact .of_eq (sequential_sameFrame (fun _ e => (loadPm_frame e).frame) h)
  | dmDreg | dmData => exact .of_eq (sequential_sameFrame (fun _ e => (storeDm_frame e).frame) h)
  | pmDreg => exact .of_eq (sequential_sameFrame (fun _ e => (storePm_frame e).frame) h)
  | dmAddrReg => exact .of_eq (sequential_sameFrame (fun _ e => storeDirect_frame e) h)
  | dregData d v => exact .of_eq (sequential_ok_sameFrame h (sameFrameSet_wrD d v s).frame)
  | jumpAddr | jumpInd =>
    exact .of_eq (transfer_takeIf_frame (fun _ _ e _ => by cases e; rfl) h)
  | jumpFlag =>
    exact .of_eq (transfer_takeIfFlag_frame (fun _ _ e _ => by cases e; rfl) h)
  | callAddr | callInd => exact .of_eq (transfer_takeIf_frame (fun _ _ => callTo_frame) h)
  | callFlag => exact .of_eq (transfer_takeIfFlag_frame (fun _ _ => callTo_frame) h)
  | rts => exact .of_eq (transfer_takeIf_frame (fun _ _ => returnFromCall_frame) h)
  | rti => exact .of_eq (transfer_takeIf_frame (fun _ _ => returnFromInterrupt_frame) h)
  | doUntil => exact .of_eq (transfer_startLoop_frame h)
  | idle => exact .of_idle (.inl rfl) (transfer_goIdle_frame h _)
  | idleN n => exact .of_idle (.inr ⟨n, rfl⟩) (transfer_goIdle_frame (needs_next.mp h).2 _)
  | nop => exact .of_eq (sequential_ok_sameFrame h rfl)
  | stackControl => exact .of_eq (sequential_sameFrame (fun _ => stackOps_frame _) h)
  | pushSts => exact .of_eq (sequential_sameFrame (fun _ => pushSts_frame _) h)
  | popSts => exact .of_eq (sequential_sameFrame (fun _ => popSts_frame _) h)
  | popCntr => exact .of_eq (sequential_sameFrame (fun _ => popCntr_frame _) h)
  | popPc => exact .of_eq (sequential_sameFrame (fun _ => dropPc_frame _) h)
  | popLoop => exact .of_eq (sequential_sameFrame (fun _ => dropLoop_frame _) h)
  | modeControl | enaTimer | disTimer | enaMMode | disMMode | enaArSat | disArSat | enaAvLatch
  | disAvLatch | enaBitRev | disBitRev | enaSecReg | disSecReg | enaGMode | disGMode | modify =>
    exact .of_eq (sequential_ok_sameFrame h rfl)
  | flagOut o =>
    exact .of_eq (sequential_ifThen_sameFrame (sameFrame_flagOps o) (needs_next.mp h).2)
  | enaInts => exact .of_ints (.inl rfl) (sequential_setInts_frame (needs_next.mp h).2 _)
  | disInts => exact .of_ints (.inr rfl) (sequential_setInts_frame (needs_next.mp h).2 _)
  | dualRead => exact .of_eq (sequential_sameFrame (fun _ e => (twoReads_frame e).frame) h)
  | compDmPm o d p e q =>
    exact .of_eq (sequential_withClause_frame twoReads_frame (sameFrame_evalComp o s) h)
  | compDm o d p =>
    exact .of_eq (sequential_withClause_frame loadDm_frame (sameFrame_evalComp o s)
      (unlessClash_next.mp h).2)
  | compPm o d p =>
    exact .of_eq (sequential_withClause_frame loadPm_frame (sameFrame_evalComp o s)
      (unlessClash_next.mp h).2)
  | dmComp p r o =>
    exact .of_eq (sequential_withClause_frame storeDm_frame (sameFrame_evalComp o s) h)
  | pmComp p r o =>
    exact .of_eq (sequential_withClause_frame storePm_frame (sameFrame_evalComp o s) h)
  | compMove o d r =>
    exact .of_eq (sequential_withClause_frame dregMove_frame (sameFrame_evalComp o s)
      (unlessClash_next.mp h).2)
  | shiftDm o d p =>
    exact .of_eq (sequential_withClause_frame loadDm_frame (sameFrame_evalShift o s)
      (unlessClash_next.mp h).2)
  | shiftPm o d p =>
    exact .of_eq (sequential_withClause_frame loadPm_frame (sameFrame_evalShift o s)
      (unlessClash_next.mp h).2)
  | dmShift p r o =>
    exact .of_eq (sequential_withClause_frame storeDm_frame (sameFrame_evalShift o s) h)
  | pmShift p r o =>
    exact .of_eq (sequential_withClause_frame storePm_frame (sameFrame_evalShift o s) h)
  | shiftMove o d r =>
    exact .of_eq (sequential_withClause_frame dregMove_frame (sameFrame_evalShift o s)
      (unlessClash_next.mp h).2)

/-- Settles O60: the frame of `exec_frame`, field by field. -/
theorem instructionFrames : Obligations.InstructionFrames := by
  unfold Obligations.InstructionFrames
  intro i s t h
  obtain ⟨hbank, hpending, hints, hidle, henv, -⟩ := exec_frame h
  refine ⟨fun hsec => ?_, fun hsec => ?_, hpending, hints, hidle, henv⟩
  · simpa [State.frame, hsec] using hbank
  · simpa [State.frame, hsec] using hbank

/-! ### The launch parameters in every step (R44) -/

theorem request_params (b : Fin 16) (s : State) : (request b s).params = s.params := by
  unfold request
  split <;> rfl

theorem withdraw_params (b : Fin 16) (s : State) : (withdraw b s).params = s.params := by
  unfold withdraw
  split
  · rfl
  · split <;> rfl

theorem writeDm_params {a : Addr} {v : Word} {s t : State} (h : writeDm a v s = .ok t) :
    t.params = s.params := by
  obtain ⟨-, rfl⟩ := writeDm_ok.mp h
  rfl

theorem writePmOutside_params {a : Addr} {w : PmBits} {s t : State}
    (h : writePmOutside a w s = .ok t) : t.params = s.params := by
  obtain ⟨-, rfl⟩ := writePmOutside_ok.mp h
  rfl

/-- A move of an agent outside the core changes no launch parameter. -/
theorem envMove_params {m : EnvMove} {s t : State} (h : envMove m s = .ok t) :
    t.params = s.params := by
  cases m with
  | request b => cases h; exact request_params b s
  | withdraw b => cases h; exact withdraw_params b s
  | dmaRead sp a => cases h; rfl
  | dmaWriteDm a w =>
    simp only [envMove] at h
    split at h
    · exact writeDm_params h
    · cases h; rfl
  | dmaWritePm a w =>
    simp only [envMove] at h
    split at h
    · exact writePmOutside_params h
    · cases h; rfl
  | busWriteDm a w => exact writeDm_params h
  | busWritePm a w => exact writePmOutside_params h
  | autoIn port p w =>
    obtain ⟨u, hu, h⟩ := bind_ok.mp h
    cases h
    rw [← writeDm_params hu]
    rfl
  | autoOut port p =>
    obtain ⟨v, -, h⟩ := bind_ok.mp h
    cases h
    rfl

/-- A turn of the core changes no launch parameter: it takes an interrupt, waits, or executes. -/
theorem coreTurn_params {s t : State} (h : coreTurn s = .next t) : t.params = s.params := by
  unfold coreTurn at h
  split at h
  · obtain ⟨-, -, rfl⟩ := takeInterrupt_ok.mp (finish_next.mp h)
    rfl
  · split at h
    · injection h with h
      rw [h]
    · split at h
      · exact (exec_frame h).params
      · cases finish_next.mp h

/-- Settles O59: whoever's turn it is, by the agent's moves and the core's. -/
theorem parametersFixed : Obligations.ParametersFixed := by
  unfold Obligations.ParametersFixed
  intro s t h
  unfold step turn at h
  split at h
  · exact coreTurn_params h
  · exact (coreTurn_params h).trans (State.setEnv_params s _)
  · exact (envMove_params (finish_next.mp h)).trans (State.setEnv_params s _)

/-- Settles O1: each field of `State.reset`, and SSTAT of its four empty stacks. -/
theorem resetAsSpecSays : Obligations.ResetAsSpecSays :=
  ⟨rfl, rfl, rfl, rfl, rfl, rfl⟩

end Sys2Proof.Machine
end

section
/-! PROOFS of the statements about memory, the fetch and the invariant (spec/20_memory.md R84 to R86,
R95, R100, spec/10_state.md R30, R37, spec/60_exceptions.md R381). What a memory access answers is said
once; each part of the invariant has one rule, and every shared operation is shown once to keep it. -/

namespace Sys2Proof.Machine

open Sys2Proof.Claims

/-! ### The invariant: one rule for each update of what it reads -/

theorem memoryOk_nil {α : Type} (map : List Region) : MemoryOk ([] : Memory α) map :=
  ⟨Memory.wf_nil, fun _ hx => nomatch hx⟩

/-- A write where the launch map has memory keeps a memory canonical and inside the map (R85, R86). -/
theorem MemoryOk.store {α : Type} {m : Memory α} {map : List Region} {a : Addr} (v : α)
    (hm : MemoryOk m map) (ha : regionKind map a.toNat = some .ram) :
    MemoryOk (Memory.store m a.toNat v) map := by
  obtain ⟨hwf, hmap⟩ := hm
  refine ⟨Memory.store_wf v hwf a.isLt, fun x hx => ?_⟩
  obtain rfl | hx := Memory.mem_store hx
  · exact ha
  · exact hmap x hx

theorem narrow_zero (n : Nat) : Narrow n 0 := fun _ _ => BitVec.getLsbD_zero

theorem narrow_lowBits (n : Nat) (v : Word) : Narrow n (lowBits n v) := by
  intro k hk
  by_cases h : k < 16
  · simp [getLsbD_lowBits n v k h, Nat.not_lt.mpr hk]
  · exact BitVec.getLsbD_of_ge _ _ (Nat.not_lt.mp h)

/-- Bits cleared leave a mask as narrow as it was (R385). -/
theorem Narrow.clearBits {n : Nat} {m : Word} (l : List IntSource) (hm : Narrow n m) :
    Narrow n (clearBits l m) := by
  intro k hk
  by_cases h : k < 16
  · by_cases hl : ∃ x ∈ l, x.bit = ⟨k, h⟩
    · exact getLsbD_clearBits_mem l m ⟨k, h⟩ hl
    · exact (getLsbD_clearBits_other l m ⟨k, h⟩ fun x hx e => hl ⟨x, hx, e⟩).trans (hm k hk)
  · exact BitVec.getLsbD_of_ge _ _ (Nat.not_lt.mp h)

/-- A stack within a depth stays within it without its top (R37). -/
theorem length_le_of_eq_cons {α : Type} {l rest : List α} {a : α} {n : Nat} (h : l = a :: rest)
    (hl : l.length ≤ n) : rest.length ≤ n := by
  subst h
  exact Nat.le_of_succ_le hl

section fields
variable {s : State}

theorem Inv.imask (h : Inv s) : Narrow s.params.imaskWidth s.imask := by
  obtain ⟨-, -, -, ⟨himask, -⟩, -⟩ := h
  exact himask

theorem Inv.pending (h : Inv s) : PendingOk s := by
  obtain ⟨-, -, -, -, hpending⟩ := h
  exact hpending

/-- A DM word stored where the launch map has memory (R85). -/
theorem Inv.storeDm {a : Addr} (h : Inv s) (v : Word)
    (ha : regionKind s.params.dmMap a.toNat = some .ram) :
    Inv (s.setDm (Memory.store s.dm a.toNat v)) := by
  obtain ⟨hdm, hrest⟩ := h
  exact ⟨hdm.store v ha, hrest⟩

/-- A PM cell stored where the launch map has memory (R85). -/
theorem Inv.storePm {a : Addr} (h : Inv s) (c : PmCell)
    (ha : regionKind s.params.pmMap a.toNat = some .ram) :
    Inv (s.setPm (Memory.store s.pm a.toNat c)) := by
  obtain ⟨hdm, hpm, hrest⟩ := h
  exact ⟨hdm, hpm.store c ha, hrest⟩

theorem Inv.pushPc (h : Inv s) (hlen : s.stk.pc.length < s.params.pcDepth) (a : Addr) :
    Inv (s.setStk { s.stk with pc := a :: s.stk.pc }) := by
  obtain ⟨hdm, hpm, ⟨-, hstk⟩, hrest⟩ := h
  exact ⟨hdm, hpm, ⟨hlen, hstk⟩, hrest⟩

theorem Inv.popPc {a : Addr} {rest : List Addr} (h : Inv s) (hpc : s.stk.pc = a :: rest) :
    Inv (s.setStk { s.stk with pc := rest }) := by
  obtain ⟨hdm, hpm, ⟨hlen, hstk⟩, hrest⟩ := h
  exact ⟨hdm, hpm, ⟨length_le_of_eq_cons hpc hlen, hstk⟩, hrest⟩

theorem Inv.pushCntr (h : Inv s) (hlen : s.stk.cntr.length < s.params.cntrDepth) (a : Addr) :
    Inv (s.setStk { s.stk with cntr := a :: s.stk.cntr }) := by
  obtain ⟨hdm, hpm, ⟨hpc, -, hstk⟩, hrest⟩ := h
  exact ⟨hdm, hpm, ⟨hpc, hlen, hstk⟩, hrest⟩

theorem Inv.popCntr {a : Addr} {rest : List Addr} (h : Inv s) (hcntr : s.stk.cntr = a :: rest) :
    Inv (s.setStk { s.stk with cntr := rest }) := by
  obtain ⟨hdm, hpm, ⟨hpc, hlen, hstk⟩, hrest⟩ := h
  exact ⟨hdm, hpm, ⟨hpc, length_le_of_eq_cons hcntr hlen, hstk⟩, hrest⟩

theorem Inv.pushLoop (h : Inv s) (hlen : s.stk.loop.length < s.params.loopDepth) (e : LoopEntry) :
    Inv (s.setStk { s.stk with loop := e :: s.stk.loop }) := by
  obtain ⟨hdm, hpm, ⟨hpc, hcntr, -, hsts⟩, hrest⟩ := h
  exact ⟨hdm, hpm, ⟨hpc, hcntr, hlen, hsts⟩, hrest⟩

theorem Inv.popLoop {e : LoopEntry} {rest : List LoopEntry} (h : Inv s)
    (hloop : s.stk.loop = e :: rest) : Inv (s.setStk { s.stk with loop := rest }) := by
  obtain ⟨hdm, hpm, ⟨hpc, hcntr, hlen, hsts⟩, hrest⟩ := h
  exact ⟨hdm, hpm, ⟨hpc, hcntr, length_le_of_eq_cons hloop hlen, hsts⟩, hrest⟩

/-- IMASK is saved as narrow as it is (R342). -/
theorem Inv.pushSts (h : Inv s) (hlen : s.stk.sts.length < s.params.stsDepth) :
    Inv (s.setStk { s.stk with
      sts := { astat := s.astat, mstat := s.mstat, imask := s.imask } :: s.stk.sts }) := by
  obtain ⟨hdm, hpm, ⟨hpc, hcntr, hloop, -⟩, ⟨himask, hifc, hsaved⟩, hpending⟩ := h
  exact ⟨hdm, hpm, ⟨hpc, hcntr, hloop, hlen⟩,
    ⟨himask, hifc, List.forall_mem_cons.mpr ⟨himask, hsaved⟩⟩, hpending⟩

/-- IMASK takes a saved value, which is as narrow (R343). -/
theorem Inv.popSts {e : StsEntry} {rest : List StsEntry} (h : Inv s) (hsts : s.stk.sts = e :: rest) :
    Inv ((s.setStk { s.stk with sts := rest }).setImask e.imask) := by
  obtain ⟨hdm, hpm, ⟨hpc, hcntr, hloop, hlen⟩, ⟨-, hifc, hsaved⟩, hpending⟩ := h
  rw [hsts] at hsaved
  obtain ⟨he, hrest⟩ := List.forall_mem_cons.mp hsaved
  exact ⟨hdm, hpm, ⟨hpc, hcntr, hloop, length_le_of_eq_cons hsts hlen⟩, ⟨he, hifc, hrest⟩, hpending⟩

theorem Inv.setImask {m : Word} (h : Inv s) (hm : Narrow s.params.imaskWidth m) :
    Inv (s.setImask m) := by
  obtain ⟨hdm, hpm, hstk, ⟨-, hmasks⟩, hpending⟩ := h
  exact ⟨hdm, hpm, hstk, ⟨hm, hmasks⟩, hpending⟩

theorem Inv.setIfc {m : Word} (h : Inv s) (hm : Narrow s.params.ifcWidth m) : Inv (s.setIfc m) := by
  obtain ⟨hdm, hpm, hstk, ⟨himask, -, hsaved⟩, hpending⟩ := h
  exact ⟨hdm, hpm, hstk, ⟨himask, hm, hsaved⟩, hpending⟩

theorem Inv.setPending {p : Word} (h : Inv s) (hp : PendingOk (s.setPending p)) :
    Inv (s.setPending p) := by
  obtain ⟨hdm, hpm, hstk, hmasks, -⟩ := h
  exact ⟨hdm, hpm, hstk, hmasks, hp⟩

/-- The register sets are no part of the invariant (R39). -/
theorem Inv.setBank (h : Inv s) (b : Bank) : Inv (s.setBank b) := by
  unfold State.setBank
  split <;> exact h

/-- The evaluation of a condition or a termination: the counter stack may lose its top (R311). -/
theorem Inv.sameButCounter {t : State} (h : Inv s) (hst : SameButCounter s t) : Inv t := by
  obtain ⟨hdm, hpm, ⟨hpc, hcntr, hloop, hsts⟩, hmasks, hpending⟩ := h
  refine ⟨?_, ?_, ⟨?_, ?_, ?_, ?_⟩, ?_, ?_⟩
  · rwa [hst.dm, hst.params]
  · rwa [hst.pm, hst.params]
  · rwa [hst.pcStack, hst.params]
  · rw [hst.params]
    exact hst.cntrStack.trans hcntr
  · rwa [hst.loopStack, hst.params]
  · rwa [hst.stsStack, hst.params]
  · rwa [MasksOk, hst.imask, hst.ifc, hst.stsStack, hst.params]
  · rwa [PendingOk, hst.pending, hst.params]

end fields

/-! ### The pending requests (R381, R383) -/

section pending
variable {s : State}

/-- The source of an IMASK bit is one of the member's, and has that bit (R382). -/
theorem sourceOf_some {b : Fin 16} {src : IntSource} (h : sourceOf b s = some src) :
    src ∈ s.params.sources ∧ src.bit = b := by
  have hbit : (src.bit == b) = true := List.find?_some (p := fun x : IntSource => x.bit == b) h
  exact ⟨List.mem_of_find?_eq_some h, eq_of_beq hbit⟩

/-- A bit set among the pending ones is a source's (R381). -/
theorem PendingOk.setBit {b : Fin 16} (h : PendingOk s) (hb : ∃ src ∈ s.params.sources, src.bit = b) :
    PendingOk (s.setPending (withBit s.pending b true)) := by
  intro k hk
  rw [State.setPending_pending, getLsbD_withBit] at hk
  split at hk
  case isTrue hkb => exact hkb ▸ hb
  case isFalse => exact h k hk

/-- A pending bit cleared adds none (R383, R385). -/
theorem PendingOk.clearBit (h : PendingOk s) (b : Fin 16) :
    PendingOk (s.setPending (withBit s.pending b false)) := by
  intro k hk
  rw [State.setPending_pending, getLsbD_withBit] at hk
  split at hk
  case isTrue => cases hk
  case isFalse => exact h k hk

/-- A write of IFC touches the pending bits of the sources alone (R383). -/
theorem PendingOk.ifcPending (h : PendingOk s) (w : Word) :
    PendingOk (s.setPending (ifcPending w s s.params.sources s.pending)) := by
  intro k hk
  by_cases hsrc : ∃ src ∈ s.params.sources, src.bit = k
  · exact hsrc
  · rw [State.setPending_pending,
      getLsbD_ifcPending_other _ _ _ _ _ fun src hm he => hsrc ⟨src, hm, he⟩] at hk
    exact h k hk

theorem inv_writeIfc (v : Word) (hs : Inv s) : Inv (writeIfc v s) :=
  (hs.setIfc (narrow_lowBits _ v)).setPending (hs.pending.ifcPending (lowBits s.params.ifcWidth v))

theorem inv_request (b : Fin 16) (hs : Inv s) : Inv (request b s) := by
  unfold request
  split
  case isTrue h =>
    obtain ⟨hsome, -⟩ := Bool.and_eq_true_iff.mp h
    obtain ⟨src, hsrc⟩ := Option.isSome_iff_exists.mp hsome
    exact hs.setPending (hs.pending.setBit ⟨src, sourceOf_some hsrc⟩)
  case isFalse => exact hs

theorem inv_withdraw (b : Fin 16) (hs : Inv s) : Inv (withdraw b s) := by
  unfold withdraw
  split
  · exact hs
  · split
    · exact hs
    · exact hs.setPending (hs.pending.clearBit b)

end pending

/-! ### The operations that keep the invariant -/

/-- Where the operation `f` answers, the invariant still holds. -/
def KeepsInv (f : State → Eff State) : Prop := ∀ ⦃s t⦄, Inv s → f s = .ok t → Inv t

/-- An operation that always answers. -/
theorem keepsInv_update {g : State → State} (hg : ∀ {s}, Inv s → Inv (g s)) :
    KeepsInv (fun s => .ok (g s)) := by
  intro s t hs h
  cases h
  exact hg hs

/-! #### The stacks (R37, R341 to R346) -/

theorem keepsInv_pushSts : KeepsInv pushSts := by
  intro s t hs h
  obtain ⟨hlen, rfl⟩ := pushSts_ok.mp h
  exact hs.pushSts hlen

theorem keepsInv_popSts : KeepsInv popSts := by
  intro s t hs h
  obtain ⟨e, rest, hsts, rfl⟩ := popSts_ok.mp h
  exact hs.popSts hsts

theorem keepsInv_popCntr : KeepsInv popCntr := by
  intro s t hs h
  obtain ⟨a, rest, hcntr, rfl⟩ := popCntr_ok.mp h
  exact hs.popCntr hcntr

theorem keepsInv_dropPc : KeepsInv dropPc := by
  intro s t hs h
  obtain ⟨a, rest, hpc, rfl⟩ := dropPc_ok.mp h
  exact hs.popPc hpc

theorem keepsInv_dropLoop : KeepsInv dropLoop := by
  intro s t hs h
  obtain ⟨e, rest, hloop, rfl⟩ := dropLoop_ok.mp h
  exact hs.popLoop hloop

theorem KeepsInv.optionally {f : State → Eff State} (hf : KeepsInv f) (b : Bool) :
    KeepsInv (optionally b f) := by
  intro s t hs h
  have h := optionally_ok.mp h
  cases b
  · rwa [show t = s from h]
  · exact hf hs h

theorem keepsInv_stsOp (o : Option StsOp) : KeepsInv (stsOp o) := by
  match o with
  | none => exact keepsInv_update id
  | some .push => exact keepsInv_pushSts
  | some .pop => exact keepsInv_popSts

theorem keepsInv_stackOps (o : StackOps) : KeepsInv (stackOps o) := by
  intro s t hs h
  obtain ⟨u, v, w, hsts, hcntr, hpc, hloop⟩ := stackOps_ok.mp h
  have hu : Inv u := keepsInv_stsOp o.sts hs hsts
  have hv : Inv v := keepsInv_popCntr.optionally o.cntr hu hcntr
  have hw : Inv w := keepsInv_dropPc.optionally o.pc hv hpc
  exact keepsInv_dropLoop.optionally o.loop hw hloop

/-! #### The next pc and the conditions (R125, R300, R308) -/

theorem keepsInv_advance : KeepsInv advance := by
  intro s t hs h
  obtain ⟨-, ⟨-, rfl⟩ | ⟨e, _, b, u, -, -, hterm, hend⟩⟩ := advance_ok h
  · exact hs
  · have hu : Inv u := hs.sameButCounter (evalTerm_same hterm)
    obtain ⟨-, v, hloop, w, hpc, rfl⟩ | ⟨-, _, _, -, rfl⟩ := hend
    · have hv : Inv v := keepsInv_dropLoop hu hloop
      have hw : Inv w := keepsInv_dropPc hv hpc
      exact hw
    · exact hu

/-- A sequential instruction keeps the invariant where its own effect does. -/
theorem KeepsInv.sequential {f : State → Eff State} (hf : KeepsInv f) {s t : State} (hs : Inv s)
    (h : sequential (f s) = .next t) : Inv t := by
  obtain ⟨u, hu, hadv⟩ := sequential_next.mp h
  exact keepsInv_advance (hf hs hu) hadv

/-- A sequential instruction whose effect is the one state `u`. -/
theorem sequential_ok_inv {u t : State} (h : sequential (.ok u) = .next t) (hu : Inv u) : Inv t :=
  (keepsInv_update id).sequential hu h

theorem KeepsInv.ifThen {f : State → Eff State} (hf : KeepsInv f) (c : Cond) :
    KeepsInv (ifThen c f) := by
  intro s t hs h
  obtain ⟨b, u, hc, h⟩ := ifThen_ok.mp h
  have hu : Inv u := hs.sameButCounter (evalCond_same hc)
  cases b
  · rwa [show t = u from h]
  · exact hf hu h

theorem KeepsInv.takeIf {f : State → Eff State} (hf : KeepsInv f) (c : Cond) :
    KeepsInv (takeIf c f) := by
  intro s t hs h
  obtain ⟨b, u, hc, h⟩ := takeIf_ok.mp h
  have hu : Inv u := hs.sameButCounter (evalCond_same hc)
  cases b
  · obtain ⟨-, rfl⟩ := h
    exact hu
  · exact hf hu h

theorem KeepsInv.takeIfFlag {f : State → Eff State} (hf : KeepsInv f) (n : Bool) :
    KeepsInv (takeIfFlag n f) := by
  intro s t hs h
  have hsample : Inv (sampleFi s) := hs
  obtain ⟨-, h⟩ | ⟨-, -, rfl⟩ := takeIfFlag_ok.mp h
  · exact hf hsample h
  · exact hsample

/-- A control transfer keeps the invariant where its effect does. -/
theorem KeepsInv.transfer {f : State → Eff State} (hf : KeepsInv f) {s t : State} (hs : Inv s)
    (h : transfer (f s) s = .next t) : Inv t := by
  obtain ⟨-, h⟩ := transfer_next.mp h
  exact hf hs h

/-! #### The control transfers (R301 to R309) and interrupt entry (R385) -/

/-- The effect of a JUMP (R301). -/
theorem keepsInv_setPc (target : State → Addr) : KeepsInv (fun s => .ok (s.setPc (target s))) :=
  keepsInv_update id

theorem keepsInv_callTo (a : Addr) : KeepsInv (callTo a) := by
  intro s t hs h
  obtain ⟨-, hlen, rfl⟩ := callTo_ok.mp h
  exact hs.pushPc hlen _

theorem keepsInv_callIndirect (k : DagIdx) : KeepsInv (fun s => callTo (indirectTarget k s) s) :=
  fun s _ hs h => keepsInv_callTo (indirectTarget k s) hs h

theorem keepsInv_returnFromCall : KeepsInv returnFromCall := by
  intro s t hs h
  obtain ⟨a, pcs, hpc, rfl⟩ := returnFromCall_ok.mp h
  exact hs.popPc hpc

theorem keepsInv_returnFromInterrupt : KeepsInv returnFromInterrupt := by
  intro s t hs h
  obtain ⟨a, pcs, e, rest, hpc, hsts, rfl⟩ := returnFromInterrupt_ok.mp h
  exact (hs.popPc hpc).popSts hsts

theorem keepsInv_startLoop (a : Addr) (x : Term) : KeepsInv (startLoop a x) := by
  intro s t hs h
  obtain ⟨-, -, -, hpc, hloop, rfl⟩ := startLoop_ok.mp h
  exact (hs.pushPc hpc (s.pc + 1)).pushLoop hloop ⟨a, x⟩

theorem keepsInv_goIdle : KeepsInv goIdle := by
  intro s t hs h
  obtain ⟨-, rfl⟩ := goIdle_ok.mp h
  exact hs

theorem narrow_nestMask (src : IntSource) {s : State} (hs : Inv s) :
    Narrow s.params.imaskWidth (nestMask src s) := by
  unfold nestMask
  split
  · exact hs.imask.clearBits _
  · exact narrow_zero _

theorem keepsInv_takeInterrupt (src : IntSource) : KeepsInv (takeInterrupt src) := by
  intro s t hs h
  obtain ⟨hpc, hsts, rfl⟩ := takeInterrupt_ok.mp h
  have hnest : Narrow s.params.imaskWidth (nestMask src s) := narrow_nestMask src hs
  have hmask := ((hs.pushPc hpc s.pc).pushSts hsts).setImask hnest
  split
  · exact hmask.setPending (hs.pending.clearBit src.bit)
  · exact hmask

/-! #### The computation units (R170, R220, R250) -/

section computations
variable {s t : State} {c : Cond}

theorem inv_writeAlu (z : AluDest) (o : AluOut) (hs : Inv s) : Inv (writeAlu z o s) := by
  cases z <;> exact hs.setBank _

theorem inv_writeMac (z : MacDest) (r : Acc) (hs : Inv s) : Inv (writeMac z r s) := by
  cases z <;> exact hs.setBank _

theorem inv_evalShift (f : ShiftFn) (s : State) (ht : Inv t) : Inv (evalShift f s t) := by
  cases f <;> exact ht.setBank _

theorem inv_evalComp (o : Comp) (s : State) (ht : Inv t) : Inv (evalComp o s t) := by
  cases o with
  | alu f z => exact inv_writeAlu z _ ht
  | mac f z => exact inv_writeMac z _ ht

theorem inv_saturateMr (hs : Inv s) : Inv (saturateMr s) := by
  unfold saturateMr
  split
  · exact hs.setBank _
  · exact hs

theorem inv_flagOps (o : FlagOps) (hs : Inv s) : Inv (flagOps o s) := by
  unfold flagOps
  split <;> exact hs

theorem aluIf_inv {z : AluDest} {f : State → AluOut} (hs : Inv s) (h : aluIf c z f s = .next t) :
    Inv t :=
  ((keepsInv_update fun hu => inv_writeAlu z _ hu).ifThen c).sequential hs h

theorem aluConstIf_inv {k : Word} {z : AluDest} {f : State → AluOut} (hs : Inv s)
    (h : aluConstIf k c z f s = .next t) : Inv t := by
  obtain ⟨-, -, h⟩ := aluConstIf_next.mp h
  exact aluIf_inv hs h

theorem aluOptionIf_inv {z : AluDest} {f : State → AluOut} (hs : Inv s)
    (h : aluOptionIf c z f s = .next t) : Inv t :=
  aluIf_inv hs (aluOptionIf_next.mp h).2

theorem macIf_inv {z : MacDest} {f : State → Acc} (hs : Inv s) (h : macIf c z f s = .next t) :
    Inv t :=
  ((keepsInv_update fun hu => inv_writeMac z _ hu).ifThen c).sequential hs h

theorem shiftIf_inv {f : ShiftFn} (hs : Inv s) (h : shiftIf c (evalShift f) s = .next t) : Inv t :=
  ((keepsInv_update fun hu => inv_evalShift f _ hu).ifThen c).sequential hs h

end computations

/-! #### Moves and clauses (R151, R280 to R291) -/

section updates
variable {s : State}

theorem inv_postModify (p : Pair) (hs : Inv s) : Inv (postModify p s) := hs

theorem inv_wrD (d : DReg) (v : Word) (hs : Inv s) : Inv (wrD d v s) := hs.setBank _

theorem inv_takePmWord (d : DReg) (w : PmBits) (hs : Inv s) : Inv (takePmWord d w s) :=
  inv_wrD d _ (s := s.setPx (w.extractLsb' 0 Config.PXW)) hs

end updates

theorem keepsInv_writeDm (a : Addr) (v : Word) : KeepsInv (writeDm a v) := by
  intro s t hs h
  obtain ⟨ha, rfl⟩ := writeDm_ok.mp h
  exact hs.storeDm v ha

theorem keepsInv_writeCell (a : Addr) (w : PmBits) (b : Bool) : KeepsInv (writeCell a w b) := by
  intro s t hs h
  obtain ⟨ha, rfl⟩ := writeCell_ok.mp h
  exact hs.storePm _ ha

theorem keepsInv_writeCntr (v : Addr) : KeepsInv (writeCntr v) := by
  intro s t hs h
  obtain ⟨-, rfl⟩ | ⟨-, hlen, rfl⟩ := writeCntr_ok.mp h
  · exact hs
  · exact hs.pushCntr hlen _

/-- A write of a register: IMASK takes as many bits as it has, IFC too, and CNTR may push (R291). -/
theorem keepsInv_writeReg (d : Reg) (v : Word) : KeepsInv (writeReg d v) := by
  intro s t hs h
  cases d with
  | dreg d => cases h; exact inv_wrD d v hs
  | sb => cases h; exact hs.setBank _
  | imask => cases h; exact hs.setImask (narrow_lowBits _ v)
  | cntr => exact keepsInv_writeCntr _ hs h
  | ifc => cases h; exact inv_writeIfc v hs
  | sstat => cases h
  | _ => cases h; exact hs

theorem inv_readReg {r : Reg} {v : Word} {s t : State} (hs : Inv s)
    (h : readReg r s = .ok (v, t)) : Inv t := by
  obtain rfl | rfl := readReg_same h <;> exact hs

theorem keepsInv_moveReg (d r : Reg) : KeepsInv (moveReg d r) := by
  intro s t hs h
  obtain ⟨⟨v, u⟩, hr, hw⟩ := bind_ok.mp h
  exact keepsInv_writeReg d v (inv_readReg hs hr) hw

theorem keepsInv_loadDirect (d : Reg) (a : Addr) : KeepsInv (loadDirect d a) := by
  intro s t hs h
  obtain ⟨v, -, hw⟩ := bind_ok.mp h
  exact keepsInv_writeReg d v hs hw

theorem keepsInv_storeDirect (a : Addr) (r : Reg) : KeepsInv (storeDirect a r) := by
  intro s t hs h
  obtain ⟨⟨v, u⟩, hr, hw⟩ := bind_ok.mp h
  exact keepsInv_writeDm a v (inv_readReg hs hr) hw

theorem keepsInv_loadDm (d : DReg) (p : Pair) : KeepsInv (loadDm d p) := by
  intro s t hs h
  obtain ⟨v, -, rfl⟩ := loadDm_ok.mp h
  exact inv_wrD d v (inv_postModify p hs)

theorem keepsInv_loadPm (d : DReg) (p : Pair) : KeepsInv (loadPm d p) := by
  intro s t hs h
  obtain ⟨w, -, rfl⟩ := loadPm_ok.mp h
  exact inv_takePmWord d w (inv_postModify p hs)

theorem keepsInv_storeDm (p : Pair) (v : Word) : KeepsInv (storeDm p v) := by
  intro s t hs h
  obtain ⟨u, hu, rfl⟩ := storeDm_ok.mp h
  exact inv_postModify p (keepsInv_writeDm _ v hs hu)

theorem keepsInv_storePm (p : Pair) (v : Word) : KeepsInv (storePm p v) := by
  intro s t hs h
  obtain ⟨u, hu, rfl⟩ := storePm_ok.mp h
  exact inv_postModify p (keepsInv_writeCell _ _ true hs hu)

theorem keepsInv_twoReads (d : XDual) (p : Pair) (e : YDual) (q : Pair) :
    KeepsInv (twoReads d p e q) := by
  intro s t hs h
  obtain ⟨w, v, -, -, rfl⟩ := twoReads_ok.mp h
  exact inv_takePmWord _ w (inv_wrD _ v (inv_postModify q (inv_postModify p hs)))

theorem keepsInv_dregMove (d r : DReg) : KeepsInv (fun s => .ok (wrD d (rdD r s) s)) :=
  keepsInv_update (inv_wrD d _)

/-- A computation beside a move writes registers alone, over the state that the move leaves. -/
theorem KeepsInv.withClause {w : State → State} {m : State → Eff State} (hm : KeepsInv m)
    (hw : ∀ {u}, Inv u → Inv (w u)) : KeepsInv (withClause w m) := by
  intro s t hs h
  obtain ⟨u, hu, rfl⟩ := withClause_ok.mp h
  exact hw (hm hs hu)

/-! ### Every instruction, every move of another agent, every step -/

/-- An instruction keeps the invariant: the constructors by family, each with the lemma about the
operation it shares. -/
theorem exec_inv {i : Instr} {s t : State} (hs : Inv s) (h : exec i s = .next t) : Inv t := by
  cases i with
  | addXY | addXC | addXYC | subXY | subXYC | subXC | subYX | subYXC | negXC | andXY | orXY | xorXY
  | passX | passY | negX | negY | notX | notY | absX | incY | decY => exact aluIf_inv hs h
  | addXK | addXKC | addXNK | addXNKC | subXK | subXKC | subXNK | subXNKC | subKX | subKXC | subNKX
  | subNKXC | andXK | andXNK | orXK | orXNK | xorXK | xorXNK | pass1 | passM1 | passK | passNK =>
    exact aluConstIf_inv hs h
  | tstbit | setbit | clrbit | tglbit | pass0 => exact aluOptionIf_inv hs h
  | divs | divq => exact sequential_ok_inv h (hs.setBank _)
  | noneAlu => exact sequential_ok_inv (needs_next.mp h).2 hs
  | mulRnd | mulSs | mulSu | mulUs | mulUu | macRnd | macSs | macSu | macUs | macUu | msubRnd | msubSs
  | msubSu | msubUs | msubUu | square | mrZero | mrMr | mrMrRnd => exact macIf_inv hs h
  | satMr => exact sequential_ok_inv h (inv_saturateMr hs)
  | ashift | lshift | norm | expHi | expHix | expLo | expadj => exact shiftIf_inv hs h
  | ashiftImm | lshiftImm => exact sequential_ok_inv h (hs.setBank _)
  | regReg d r => exact (keepsInv_moveReg d r).sequential hs h
  | regDmAddr d a => exact (keepsInv_loadDirect d a).sequential hs h
  | regData d v => exact (keepsInv_writeReg d _).sequential hs h
  | dregDm d p => exact (keepsInv_loadDm d p).sequential hs h
  | dregPm d p => exact (keepsInv_loadPm d p).sequential hs h
  | dmDreg p r => exact (keepsInv_storeDm p _).sequential hs h
  | dmData p v => exact (keepsInv_storeDm p v).sequential hs h
  | pmDreg p r => exact (keepsInv_storePm p _).sequential hs h
  | dmAddrReg a r => exact (keepsInv_storeDirect a r).sequential hs h
  | dregData d v => exact sequential_ok_inv h (inv_wrD d v hs)
  | jumpAddr a c => exact ((keepsInv_setPc fun _ => a).takeIf c).transfer hs h
  | jumpInd k c => exact ((keepsInv_setPc (indirectTarget k)).takeIf c).transfer hs h
  | jumpFlag n a => exact ((keepsInv_setPc fun _ => a).takeIfFlag n).transfer hs h
  | callAddr a c => exact ((keepsInv_callTo a).takeIf c).transfer hs h
  | callInd k c => exact ((keepsInv_callIndirect k).takeIf c).transfer hs h
  | callFlag n a => exact ((keepsInv_callTo a).takeIfFlag n).transfer hs h
  | rts c => exact (keepsInv_returnFromCall.takeIf c).transfer hs h
  | rti c => exact (keepsInv_returnFromInterrupt.takeIf c).transfer hs h
  | doUntil a x => exact (keepsInv_startLoop a x).transfer hs h
  | idle => exact keepsInv_goIdle.transfer hs h
  | idleN n => exact keepsInv_goIdle.transfer hs (needs_next.mp h).2
  | stackControl o => exact (keepsInv_stackOps o).sequential hs h
  | pushSts => exact keepsInv_pushSts.sequential hs h
  | popSts => exact keepsInv_popSts.sequential hs h
  | popCntr => exact keepsInv_popCntr.sequential hs h
  | popPc => exact keepsInv_dropPc.sequential hs h
  | popLoop => exact keepsInv_dropLoop.sequential hs h
  | nop | modeControl | enaTimer | disTimer | enaMMode | disMMode | enaArSat | disArSat | enaAvLatch
  | disAvLatch | enaBitRev | disBitRev | enaSecReg | disSecReg | enaGMode | disGMode | modify =>
    exact sequential_ok_inv h hs
  | flagOut o c =>
    exact ((keepsInv_update (inv_flagOps o)).ifThen c).sequential hs (needs_next.mp h).2
  | enaInts | disInts => exact sequential_ok_inv (needs_next.mp h).2 hs
  | dualRead d p e q => exact (keepsInv_twoReads d p e q).sequential hs h
  | compDmPm o d p e q =>
    exact ((keepsInv_twoReads d p e q).withClause (inv_evalComp o s)).sequential hs h
  | compDm o d p =>
    exact ((keepsInv_loadDm d p).withClause (inv_evalComp o s)).sequential hs
      (unlessClash_next.mp h).2
  | compPm o d p =>
    exact ((keepsInv_loadPm d p).withClause (inv_evalComp o s)).sequential hs
      (unlessClash_next.mp h).2
  | compMove o d r =>
    exact ((keepsInv_dregMove d r).withClause (inv_evalComp o s)).sequential hs
      (unlessClash_next.mp h).2
  | dmComp p r o =>
    exact ((keepsInv_storeDm p _).withClause (inv_evalComp o s)).sequential hs h
  | pmComp p r o =>
    exact ((keepsInv_storePm p _).withClause (inv_evalComp o s)).sequential hs h
  | shiftDm o d p =>
    exact ((keepsInv_loadDm d p).withClause (inv_evalShift o s)).sequential hs
      (unlessClash_next.mp h).2
  | shiftPm o d p =>
    exact ((keepsInv_loadPm d p).withClause (inv_evalShift o s)).sequential hs
      (unlessClash_next.mp h).2
  | shiftMove o d r =>
    exact ((keepsInv_dregMove d r).withClause (inv_evalShift o s)).sequential hs
      (unlessClash_next.mp h).2
  | dmShift p r o =>
    exact ((keepsInv_storeDm p _).withClause (inv_evalShift o s)).sequential hs h
  | pmShift p r o =>
    exact ((keepsInv_storePm p _).withClause (inv_evalShift o s)).sequential hs h

/-- A move of an agent outside the core keeps the invariant: it requests for sources alone, and
writes only where the map has memory (R381, R395). -/
theorem keepsInv_envMove (m : EnvMove) : KeepsInv (envMove m) := by
  intro s t hs h
  cases m with
  | request b => cases h; exact inv_request b hs
  | withdraw b => cases h; exact inv_withdraw b hs
  | dmaRead sp a => cases h; exact hs
  | dmaWriteDm a w =>
    simp only [envMove] at h
    split at h
    · exact keepsInv_writeDm a w hs h
    · cases h; exact hs
  | dmaWritePm a w =>
    simp only [envMove] at h
    split at h
    · exact keepsInv_writeCell a w _ hs h
    · cases h; exact hs
  | busWriteDm a w => exact keepsInv_writeDm a w hs h
  | busWritePm a w => exact keepsInv_writeCell a w _ hs h
  | autoIn port p w =>
    obtain ⟨u, hu, h⟩ := bind_ok.mp h
    cases h
    have hinv : Inv u := keepsInv_writeDm _ w hs hu
    exact hinv
  | autoOut port p =>
    obtain ⟨v, -, h⟩ := bind_ok.mp h
    cases h
    exact hs

/-- A turn of the core keeps the invariant: it takes an interrupt, waits, or executes. -/
theorem coreTurn_inv {s t : State} (hs : Inv s) (h : coreTurn s = .next t) : Inv t := by
  unfold coreTurn at h
  split at h
  · exact keepsInv_takeInterrupt _ hs (finish_next.mp h)
  · split at h
    · cases h
      exact hs
    · split at h
      · exact exec_inv hs h
      · cases finish_next.mp h

/-- Settles O58: whoever's turn it is, by the core's turn and the agents' moves. -/
theorem stepKeepsInv : Obligations.StepKeepsInv := by
  unfold Obligations.StepKeepsInv
  intro s t hs h
  unfold step turn at h
  split at h
  case h_1 => exact coreTurn_inv hs h
  case h_2 rest _ => exact coreTurn_inv (s := s.setEnv rest) hs h
  case h_3 m rest _ => exact keepsInv_envMove m (s := s.setEnv rest) hs (finish_next.mp h)

/-- Settles O2: at reset both memories are empty, so are the stacks, and IMASK, IFC and the pending
requests are 0. -/
theorem resetHasInv : Obligations.ResetHasInv := by
  have hstacks : StacksOk State.reset := ⟨Nat.zero_le _, Nat.zero_le _, Nat.zero_le _, Nat.zero_le _⟩
  have hmasks : MasksOk State.reset := ⟨narrow_zero _, narrow_zero _, fun _ he => nomatch he⟩
  have hpending : PendingOk State.reset := fun b hb => by simp [State.reset] at hb
  exact ⟨memoryOk_nil _, memoryOk_nil _, hstacks, hmasks, hpending⟩

/-! ### Reads after writes (R84, R85, R95, R100) -/

/-- A DM read looks at data memory and the launch map alone. -/
theorem readDm_congr {s t : State} {a : Addr} (hp : t.params = s.params)
    (hl : Memory.lookup t.dm a.toNat = Memory.lookup s.dm a.toNat) : readDm a t = readDm a s := by
  unfold readDm
  rw [hp, hl]

/-- A PM read looks at program memory and the launch map alone. -/
theorem readCell_congr {s t : State} {a : Addr} (hp : t.params = s.params)
    (hl : Memory.lookup t.pm a.toNat = Memory.lookup s.pm a.toNat) :
    readCell a t = readCell a s := by
  unfold readCell
  rw [hp, hl]

/-- A write at another address leaves what a memory holds. -/
theorem lookup_store_of_ne {α : Type} {a b : Addr} (h : b ≠ a) (m : Memory α) (v : α) :
    Memory.lookup (Memory.store m a.toNat v) b.toNat = Memory.lookup m b.toNat :=
  Memory.lookup_store_other m v fun e => h (BitVec.eq_of_toNat_eq e)

/-- Settles O3: what a store leaves to look up, at its own address and at every other. -/
theorem readAfterWrite : Obligations.ReadAfterWrite := by
  unfold Obligations.ReadAfterWrite
  constructor
  · intro a v s t h
    obtain ⟨hram, rfl⟩ := writeDm_ok.mp h
    exact ⟨readDm_ok.mpr ⟨hram, Memory.lookup_store_self _ _ _⟩,
      fun b hb => readDm_congr rfl (lookup_store_of_ne hb _ _), fun b => readCell_congr rfl rfl⟩
  · intro a w s t h
    obtain ⟨hram, rfl⟩ := writeCell_ok.mp h
    have hcell : readCell a (s.setPm (Memory.store s.pm a.toNat (.word w true))) =
        .ok (.word w true) := readCell_ok.mpr ⟨hram, Memory.lookup_store_self _ _ _⟩
    exact ⟨readPm_ok.mpr ⟨_, hcell, rfl⟩, hcell,
      fun b hb => readCell_congr rfl (lookup_store_of_ne hb _ _), fun b => readDm_congr rfl rfl⟩

/-! ### The accesses and moves that stop (R29, R30, R40, R84, R85) -/

/-- The outcome of an operation that stops. -/
def Stop.outcome : Stop → Result
  | .fault r => .fault r
  | .refused r => .refused r

theorem finish_error (e : Stop) : finish (.error e) = e.outcome := by
  cases e <;> rfl

theorem sequential_error (e : Stop) : sequential (.error e) = e.outcome := finish_error e

theorem readDm_unmapped {a : Addr} {s : State} (h : regionKind s.params.dmMap a.toNat = none) :
    readDm a s = .error (.fault (.unadmittedRead .dm a)) := by
  simp [readDm, h]

theorem readDm_control {a : Addr} {s : State}
    (h : regionKind s.params.dmMap a.toNat = some .control) :
    readDm a s = .error (.refused (.memoryMappedRegister a)) := by
  simp [readDm, h]

theorem readDm_unwritten {a : Addr} {s : State} (h : regionKind s.params.dmMap a.toNat = some .ram)
    (hl : Memory.lookup s.dm a.toNat = none) : readDm a s = .error (.fault (.unwritten .dm a)) := by
  simp [readDm, h, hl]

theorem writeDm_unmapped {a : Addr} {s : State} (h : regionKind s.params.dmMap a.toNat = none)
    (v : Word) : writeDm a v s = .error (.fault (.unadmittedWrite .dm a)) := by
  simp [writeDm, h]

theorem writeDm_control {a : Addr} {s : State}
    (h : regionKind s.params.dmMap a.toNat = some .control) (v : Word) :
    writeDm a v s = .error (.refused (.memoryMappedRegister a)) := by
  simp [writeDm, h]

/-- A direct load stops as its read does (R283). -/
theorem exec_regDmAddr_stop {a : Addr} {s : State} {e : Stop} (h : readDm a s = .error e) (d : Reg) :
    exec (.regDmAddr d a) s = e.outcome := by
  show sequential (loadDirect d a s) = e.outcome
  rw [loadDirect, h]
  exact sequential_error e

/-- A direct store of a data register stops as its write does (R287). -/
theorem exec_dmAddrReg_stop {a : Addr} {r : DReg} {s : State} {e : Stop}
    (h : writeDm a (rdD r s) s = .error e) : exec (.dmAddrReg a (.dreg r)) s = e.outcome := by
  show sequential (writeDm a (rdD r s) s) = e.outcome
  rw [h]
  exact sequential_error e

/-- Every register but IFC and OWRCNTR can be read (R281). -/
theorem Reads.readReg_answers {r : Reg} {v : Word} {s u : State} (h : Reads r v s u) :
    ∃ w x, readReg r s = .ok (w, x) := by
  obtain ⟨hr, -, -⟩ | ⟨rfl | rfl, -, -⟩ := h
  · cases r with
    | rx0 | rx1 | ifc | owrcntr => cases hr
    | _ => exact ⟨_, _, rfl⟩
  · exact ⟨_, _, rfl⟩
  · exact ⟨_, _, rfl⟩

/-- A MOVE to SSTAT is refused, wherever its value comes from (R29). -/
theorem exec_moves_sstat {i : Instr} {v : Word} {s u : State} (h : Moves i .sstat v s u) :
    exec i s = .refused .writeToSstat := by
  obtain ⟨r, rfl, hr⟩ | ⟨a, rfl, hdm, -⟩ | ⟨n, rfl, -, -⟩ := h
  · obtain ⟨w, x, hw⟩ := Reads.readReg_answers hr
    show sequential (moveReg .sstat r s) = _
    rw [moveReg, hw]
    rfl
  · show sequential (loadDirect .sstat a s) = _
    rw [loadDirect, readDm_ok.mpr hdm]
    rfl
  · rfl

/-- Settles O4: a load or a store stops as its access does, and so do the two MOVEs. -/
theorem movesThatStop : Obligations.MovesThatStop := by
  unfold Obligations.MovesThatStop
  intro i v d r a s u
  refine ⟨fun h => ⟨?_, ?_⟩, fun h => ⟨?_, ?_⟩, fun hram hl => ?_, exec_moves_sstat, rfl, rfl⟩
  · exact exec_regDmAddr_stop (readDm_unmapped h) d
  · exact exec_dmAddrReg_stop (writeDm_unmapped h _)
  · exact exec_regDmAddr_stop (readDm_control h) d
  · exact exec_dmAddrReg_stop (writeDm_control h _)
  · exact exec_regDmAddr_stop (readDm_unwritten hram hl) d

/-! ### The fetches that are refused (R100, R113, R127) -/

/-- The instruction at `pc` is that of the cell there (R110). -/
theorem fetch_of_lookup {s : State} {c : PmCell}
    (hm : regionKind s.params.pmMap s.pc.toNat = some .ram)
    (hc : Memory.lookup s.pm s.pc.toNat = some c) : fetch s = cellInstr s.pc c := by
  rw [fetch, readCell_ok.mpr ⟨hm, hc⟩, ok_bind]

/-- With no other agent's turn next, nothing to deliver and the core awake, a fetch that stops ends
the run. -/
theorem step_fetch_stop {s : State} {e : Stop} (henv : s.env = []) (hdel : deliverable s = none)
    (hidle : s.idle = false) (h : fetch s = .error e) : step s = e.outcome := by
  simp only [step, turn, henv, coreTurn, hdel, hidle, h, Bool.false_eq_true, if_false]
  exact finish_error e

/-- Settles O6: by what the cell at `pc` holds. -/
theorem fetchRefusals : Obligations.FetchRefusals := by
  unfold Obligations.FetchRefusals
  intro w i s henv hdel hidle hmap
  refine ⟨fun hc => ?_, fun e hc hdec => ?_, fun hc hgram => ?_⟩
  · have hfetch : fetch s = .error (.refused (.fetchOfWrittenWord s.pc)) := fetch_of_lookup hmap hc
    exact step_fetch_stop henv hdel hidle hfetch
  · have hfetch : fetch s = .error (.refused (.unknownWord e)) := by
      rw [fetch_of_lookup hmap hc, cellInstr, hdec]
    exact step_fetch_stop henv hdel hidle hfetch
  · have hfetch : fetch s = .error (.refused .notAnInstruction) := by
      rw [fetch_of_lookup hmap hc, cellInstr, hgram]
      rfl
    exact step_fetch_stop henv hdel hidle hfetch

end Sys2Proof.Machine
end

section
/-! PROOFS of the statements about the encoding (spec/30_encoding.md R110, R127, R129, R130, R131).
Three layers: a field's code and what it stands for; what the leading bits and the fields of each format's
word are; what the decoder makes of them. A word is kept a variable with an equation, so that no proof
unfolds its sum. -/

namespace Sys2Proof

open Sys2Proof.Laws Sys2Proof.Claims

/-! ### The field codes (R130) -/

@[simp] theorem XAlu.ofCode_code (x : XAlu) : XAlu.ofCode x.code = some x := by cases x <;> rfl
@[simp] theorem XMac.ofCode_code (x : XMac) : XMac.ofCode x.code = some x := by cases x <;> rfl
@[simp] theorem XShift.ofCode_code (x : XShift) : XShift.ofCode x.code = some x := by cases x <;> rfl
@[simp] theorem YAlu.ofCode_code (y : YAlu) : YAlu.ofCode y.code = some y := by cases y <;> rfl
@[simp] theorem YMac.ofCode_code (y : YMac) : YMac.ofCode y.code = some y := by cases y <;> rfl
@[simp] theorem XDual.ofCode_code (d : XDual) : XDual.ofCode d.code = some d := by cases d <;> rfl
@[simp] theorem YDual.ofCode_code (e : YDual) : YDual.ofCode e.code = some e := by cases e <;> rfl
@[simp] theorem DReg.ofCode_code (d : DReg) : DReg.ofCode d.code = some d := by cases d <;> rfl
@[simp] theorem Cond.ofCode_code (c : Cond) : Cond.ofCode c.code = some c := by cases c <;> rfl
@[simp] theorem Term.ofCode_code (t : Term) : Term.ofCode t.code = some t := by cases t <;> rfl
@[simp] theorem AluDest.ofCode_code (z : AluDest) : AluDest.ofCode z.code = some z := by
  cases z <;> rfl
@[simp] theorem MacDest.ofCode_code (z : MacDest) : MacDest.ofCode z.code = some z := by
  cases z <;> rfl
@[simp] theorem IdleDiv.ofCode_code (n : IdleDiv) : IdleDiv.ofCode n.code = some n := by
  cases n <;> rfl
@[simp] theorem FlagOp.ofCode_code (o : FlagOp) : FlagOp.ofCode o.code = some o := by
  cases o <;> rfl
@[simp] theorem Half.ofCode_code (h : Half) : Half.ofCode h.code = some h := by cases h <;> rfl
@[simp] theorem Switch.ofCode_code (w : Switch) : Switch.ofCode w.code = w := by cases w <;> rfl
@[simp] theorem bitOf_bitCode (b : Bool) : bitOf (bitCode b) = b := by cases b <;> rfl
@[simp] theorem stsOf_stsCode (o : Option StsOp) : stsOf (stsCode o) = o := by
  rcases o with _ | _ | _ <;> rfl
@[simp] theorem macOf_macCode (n : MacKind) (m : MacMod) : macOf (macCode n m) = some (n, m) := by
  cases n <;> cases m <;> rfl

@[simp] theorem Reg.ofCode_code (r : Reg) : Reg.ofCode r.code.1 r.code.2 = some r := by
  cases r with
  | dreg d => exact congrArg (Option.map Reg.dreg) (DReg.ofCode_code d)
  | i n | m n | l n => revert n; decide
  | _ => rfl

/-! ### The pairs, and the functions of AMF and SF (R122, R130) -/

theorem pairOf_dag1 {p : Pair} (h : p.inDag1 = true) : pairOf 0 (p.i.val % 4) (p.m.val % 4) = p := by
  obtain ⟨i, m⟩ := p
  revert i m; decide

theorem pairOf_dag2 {p : Pair} (h : p.inDag2 = true) : pairOf 1 (p.i.val % 4) (p.m.val % 4) = p := by
  obtain ⟨i, m⟩ := p
  revert i m; decide

theorem pairOf_sameDag {p : Pair} (h : p.sameDag = true) :
    pairOf p.g (p.i.val % 4) (p.m.val % 4) = p := by
  obtain ⟨i, m⟩ := p
  revert i m; decide

theorem YAlu.code_ne_three (y : YAlu) : y.code ≠ 3 := by cases y <;> decide
theorem YMac.code_ne_three (y : YMac) : y.code ≠ 3 := by cases y <;> decide

theorem AluFn.ofCode_code (f : AluFn) : AluFn.ofCode f.code.1 f.code.2.1 f.code.2.2 = some f := by
  have hx : XAlu.ofCode 0 = some .ax0 := rfl
  have hy : YAlu.ofCode 0 = some .ay0 := rfl
  cases f <;> simp [AluFn.ofCode, AluFn.code, YAlu.code_ne_three, hx, hy]

theorem MacFn.ofCode_code {f : MacFn} {amf y x : Nat} (h : f.code = some (amf, y, x)) :
    MacFn.ofCode amf y x = some f := by
  cases f with
  | prod n m x y => cases h; simp [MacFn.ofCode, YMac.code_ne_three]
  | square => cases h
  | zero | mr | mrRnd => cases h; rfl

theorem ShiftFn.ofCode_code (f : ShiftFn) : ShiftFn.ofCode f.code.1 f.code.2 = some f := by
  cases f with
  | shift n o h x =>
    cases n <;> cases o <;> cases h <;>
      simp [ShiftFn.ofCode, ShiftFn.code, ShiftKind.code, Half.code, Half.ofCode, bitCode, bitOf]
  | exp n x => cases n <;> simp [ShiftFn.ofCode, ShiftFn.code, Half.ofCode]
  | expadj x => simp [ShiftFn.ofCode, ShiftFn.code, Half.ofCode]

/-- AMF says of which unit the function is: 16 and above the ALU's. -/
theorem AluFn.amf_ge (f : AluFn) : 16 ≤ f.code.1 := by cases f <;> simp [AluFn.code]

/-- The codes from 1 to 15 are the MAC's. -/
theorem MacFn.amf_range {f : MacFn} {amf y x : Nat} (h : f.code = some (amf, y, x)) :
    0 < amf ∧ amf < 16 := by
  cases f with
  | prod n m x y => cases h; cases n <;> cases m <;> decide
  | square => cases h
  | zero | mr | mrRnd => cases h; decide

/-! ### The format of a word by its leading bits (R129) -/

section formats
variable {w : Nat}

theorem decodeNat_type1 (hp : w / 2 ^ 22 = 0b11) : decodeNat w = orReserved 1 (type1 w) := by
  rw [decodeNat, if_pos hp]

theorem decodeNat_type2 (hp : w / 2 ^ 21 = 0b101) : decodeNat w = orReserved 2 (type2 w) := by
  rw [decodeNat, if_neg (by omega), if_pos hp]

theorem decodeNat_type3 (hp : w / 2 ^ 21 = 0b100) : decodeNat w = orReserved 3 (type3 w) := by
  rw [decodeNat]
  iterate 2 rw [if_neg (by omega)]
  rw [if_pos hp]

theorem decodeNat_type4 (hp : w / 2 ^ 21 = 0b011) : decodeNat w = orReserved 4 (type4 w) := by
  rw [decodeNat]
  iterate 3 rw [if_neg (by omega)]
  rw [if_pos hp]

theorem decodeNat_type5 (hp : w / 2 ^ 20 = 0b0101) : decodeNat w = orReserved 5 (type5 w) := by
  rw [decodeNat]
  iterate 4 rw [if_neg (by omega)]
  rw [if_pos hp]

theorem decodeNat_type6 (hp : w / 2 ^ 20 = 0b0100) : decodeNat w = orReserved 6 (type6 w) := by
  rw [decodeNat]
  iterate 5 rw [if_neg (by omega)]
  rw [if_pos hp]

theorem decodeNat_type7 (hp : w / 2 ^ 20 = 0b0011) : decodeNat w = orReserved 7 (type7 w) := by
  rw [decodeNat]
  iterate 6 rw [if_neg (by omega)]
  rw [if_pos hp]

theorem decodeNat_type8 (hp : w / 2 ^ 19 = 0b00101) : decodeNat w = orReserved 8 (type8 w) := by
  rw [decodeNat]
  iterate 7 rw [if_neg (by omega)]
  rw [if_pos hp]

theorem decodeNat_type9 (hp : w / 2 ^ 19 = 0b00100) : decodeNat w = orReserved 9 (type9 w) := by
  rw [decodeNat]
  iterate 8 rw [if_neg (by omega)]
  rw [if_pos hp]

theorem decodeNat_type10 (hp : w / 2 ^ 19 = 0b00011) : decodeNat w = orReserved 10 (type10 w) := by
  rw [decodeNat]
  iterate 9 rw [if_neg (by omega)]
  rw [if_pos hp]

theorem decodeNat_type11 (hp : w / 2 ^ 18 = 0b000101) : decodeNat w = orReserved 11 (type11 w) := by
  rw [decodeNat]
  iterate 10 rw [if_neg (by omega)]
  rw [if_pos hp]

theorem decodeNat_type12 (hp : w / 2 ^ 17 = 0b0001001) :
    decodeNat w = orReserved 12 (type12 w) := by
  rw [decodeNat]
  iterate 11 rw [if_neg (by omega)]
  rw [if_pos hp]

theorem decodeNat_type13 (hp : w / 2 ^ 16 = 0b00010001) :
    decodeNat w = orReserved 13 (type13 w) := by
  rw [decodeNat]
  iterate 12 rw [if_neg (by omega)]
  rw [if_pos hp]

theorem decodeNat_type14 (hp : w / 2 ^ 15 = 0b000100000) :
    decodeNat w = orReserved 14 (type14 w) := by
  rw [decodeNat]
  iterate 13 rw [if_neg (by omega)]
  rw [if_pos hp]

theorem decodeNat_type15 (hp : w / 2 ^ 15 = 0b000011110) :
    decodeNat w = orReserved 15 (type15 w) := by
  rw [decodeNat]
  iterate 14 rw [if_neg (by omega)]
  rw [if_pos hp]

theorem decodeNat_type16 (hp : w / 2 ^ 15 = 0b000011100) :
    decodeNat w = orReserved 16 (type16 w) := by
  rw [decodeNat]
  iterate 15 rw [if_neg (by omega)]
  rw [if_pos hp]

theorem decodeNat_type17 (hp : w / 2 ^ 12 = 0b000011010000) :
    decodeNat w = orReserved 17 (type17 w) := by
  rw [decodeNat]
  iterate 16 rw [if_neg (by omega)]
  rw [if_pos hp]

theorem decodeNat_type18 (hp : w / 2 ^ 16 = 0b00001100) :
    decodeNat w = orReserved 18 (type18 w) := by
  rw [decodeNat]
  iterate 17 rw [if_neg (by omega)]
  rw [if_pos hp]

theorem decodeNat_type19 (hp : w / 2 ^ 8 = 0b0000101100000000) :
    decodeNat w = orReserved 19 (type19 w) := by
  rw [decodeNat]
  iterate 18 rw [if_neg (by omega)]
  rw [if_pos hp]

theorem decodeNat_type20 (hp : w / 2 ^ 5 = 0b0000101000000000000) :
    decodeNat w = orReserved 20 (type20 w) := by
  rw [decodeNat]
  iterate 19 rw [if_neg (by omega)]
  rw [if_pos hp]

theorem decodeNat_type21 (hp : w / 2 ^ 5 = 0b0000100100000000000) :
    decodeNat w = orReserved 21 (type21 w) := by
  rw [decodeNat]
  iterate 20 rw [if_neg (by omega)]
  rw [if_pos hp]

theorem decodeNat_type23 (hp : w / 2 ^ 11 = 0b0000011100010) :
    decodeNat w = orReserved 23 (type23 w) := by
  rw [decodeNat]
  iterate 21 rw [if_neg (by omega)]
  rw [if_pos hp]

theorem decodeNat_type24 (hp : w / 2 ^ 13 = 0b00000110000) :
    decodeNat w = orReserved 24 (type24 w) := by
  rw [decodeNat]
  iterate 22 rw [if_neg (by omega)]
  rw [if_pos hp]

theorem decodeNat_type26 (hp : w / 2 ^ 5 = 0b0000010000000000000) :
    decodeNat w = orReserved 26 (type26 w) := by
  rw [decodeNat]
  iterate 24 rw [if_neg (by omega)]
  rw [if_pos hp]

theorem decodeNat_type27 (hp : w / 2 ^ 16 = 0b00000011) :
    decodeNat w = orReserved 27 (type27 w) := by
  rw [decodeNat]
  iterate 25 rw [if_neg (by omega)]
  rw [if_pos hp]

theorem decodeNat_type28 (hp : w / 2 ^ 12 = 0b000000100000) :
    decodeNat w = orReserved 28 (type28 w) := by
  rw [decodeNat]
  iterate 26 rw [if_neg (by omega)]
  rw [if_pos hp]

theorem decodeNat_type31 (hp : w / 2 ^ 4 = 0b00000010100000000000) :
    decodeNat w = orReserved 31 (type31 w) := by
  rw [decodeNat]
  iterate 28 rw [if_neg (by omega)]
  rw [if_pos hp]

end formats

/-- A word that decodes has 24 bits: every format fixes its leading bits. -/
theorem lt_of_decodeNat_ok {w : Nat} {i : Instr} (h : decodeNat w = .ok i) : w < 2 ^ 24 := by
  by_contra hw
  rw [decodeNat] at h
  iterate 29 rw [if_neg (by omega)] at h
  cases h

/-- The bit D or S of a format tells two instructions apart. -/
theorem orReserved_ite {n : Nat} {c : Prop} [Decidable c] {i j : Instr} :
    orReserved n (if c then some i else some j) = .ok (if c then i else j) := by
  split <;> rfl

/-! ### The fields of the words that several instructions share (R129) -/

/-- `b` is what the fields Z, AMF, YOP and XOP of a computation clause add to a word. -/
structure ClauseBits (b z amf y x : Nat) : Prop where
  eq : b = z * 2 ^ 18 + amf * 2 ^ 13 + y * 2 ^ 11 + x * 2 ^ 8
  z_lt : z < 2
  amf_lt : amf < 32
  y_lt : y < 4
  x_lt : x < 8

/-- A word of a plain move has these fields 0. -/
theorem clauseBits_zero : ClauseBits 0 0 0 0 0 := by constructor <;> decide

/-- The bits of a computation clause are those of fields that decode to it. AMF is not 0, so that the
word is no plain move. -/
theorem Comp.clauseBits {o : Comp} {b : Nat} (h : o.bits = some b) :
    ∃ z amf y x, ClauseBits b z amf y x ∧ amf ≠ 0 ∧ Comp.ofCode z amf y x = some o ∧
      (o.notFeedback = true → z = 0) := by
  obtain ⟨q, hcode, rfl⟩ := Option.map_eq_some_iff.mp h
  cases o with
  | alu f d =>
    cases hcode
    obtain ⟨hamf, hy, hx⟩ := aluFn_code_lt f
    have hge := f.amf_ge
    refine ⟨d.code, f.code.1, f.code.2.1, f.code.2.2,
      ⟨rfl, aluDest_code_lt d, hamf, hy, hx⟩, by omega, ?_, ?_⟩
    · simp [Comp.ofCode, AluFn.ofCode_code, hge]
    · cases d <;> simp [Comp.notFeedback, AluDest.code]
  | mac f d =>
    obtain ⟨⟨amf, y, x⟩, hq, rfl⟩ := Option.map_eq_some_iff.mp hcode
    obtain ⟨hamf, hy, hx⟩ := macFn_code_lt hq
    obtain ⟨hpos, hlt⟩ := MacFn.amf_range hq
    refine ⟨d.code, amf, y, x, ⟨rfl, macDest_code_lt d, hamf, hy, hx⟩, by omega, ?_, ?_⟩
    · simp [Comp.ofCode, MacFn.ofCode_code hq, hlt]
    · cases d <;> simp [Comp.notFeedback, MacDest.code]

section words
variable {w b z amf y x n : Nat}

theorem word1_fields {d : XDual} {p : Pair} {e : YDual} {q : Pair} (hb : ClauseBits b 0 amf y x)
    (hw : w = word1 d p e q + b) :
    w / 2 ^ 22 = 0b11 ∧ field w 20 2 = e.code ∧ field w 18 2 = d.code ∧ field w 13 5 = amf ∧
      field w 11 2 = y ∧ field w 8 3 = x ∧ field w 6 2 = q.i.val % 4 ∧ field w 4 2 = q.m.val % 4 ∧
      field w 2 2 = p.i.val % 4 ∧ field w 0 2 = p.m.val % 4 := by
  obtain ⟨rfl, -, hamf, hy, hx⟩ := hb
  have hd := xDual_code_lt d
  have he := yDual_code_lt e
  simp only [word1, Pair.low] at hw
  simp only [field]
  omega

theorem word4_fields {p : Pair} {r : DReg} (hb : ClauseBits b z amf y x) (hn : n < 2)
    (hw : w = word4 p n r + b) :
    w / 2 ^ 21 = 0b011 ∧ field w 20 1 = p.g ∧ field w 19 1 = n ∧ field w 18 1 = z ∧
      field w 13 5 = amf ∧ field w 11 2 = y ∧ field w 8 3 = x ∧ field w 4 4 = r.code ∧
      field w 2 2 = p.i.val % 4 ∧ field w 0 2 = p.m.val % 4 := by
  obtain ⟨rfl, hz, hamf, hy, hx⟩ := hb
  have hr := dReg_code_lt r
  have hg := (low_lt p).2
  simp only [word4, lowByte, Pair.low] at hw
  simp only [field]
  omega

theorem word5_fields {p : Pair} {r : DReg} (hb : ClauseBits b z amf y x) (hn : n < 2)
    (hw : w = word5 p n r + b) :
    w / 2 ^ 20 = 0b0101 ∧ field w 19 1 = n ∧ field w 18 1 = z ∧
      field w 13 5 = amf ∧ field w 11 2 = y ∧ field w 8 3 = x ∧ field w 4 4 = r.code ∧
      field w 2 2 = p.i.val % 4 ∧ field w 0 2 = p.m.val % 4 := by
  obtain ⟨rfl, hz, hamf, hy, hx⟩ := hb
  have hr := dReg_code_lt r
  simp only [word5, lowByte, Pair.low] at hw
  simp only [field]
  omega

theorem word12_fields {p : Pair} {r : DReg} {f : ShiftFn} (hn : n < 2) (hw : w = word12 p n r f) :
    w / 2 ^ 17 = 0b0001001 ∧ field w 16 1 = p.g ∧ field w 15 1 = n ∧ field w 11 4 = f.code.1 ∧
      field w 8 3 = f.code.2 ∧ field w 4 4 = r.code ∧ field w 2 2 = p.i.val % 4 ∧
      field w 0 2 = p.m.val % 4 := by
  obtain ⟨hsf, hx⟩ := shiftFn_code_lt f
  have hr := dReg_code_lt r
  have hg := (low_lt p).2
  simp only [word12, ShiftFn.bits, lowByte, Pair.low] at hw
  simp only [field]
  omega

theorem word13_fields {p : Pair} {r : DReg} {f : ShiftFn} (hn : n < 2) (hw : w = word13 p n r f) :
    w / 2 ^ 16 = 0b00010001 ∧ field w 15 1 = n ∧ field w 11 4 = f.code.1 ∧
      field w 8 3 = f.code.2 ∧ field w 4 4 = r.code ∧ field w 2 2 = p.i.val % 4 ∧
      field w 0 2 = p.m.val % 4 := by
  obtain ⟨hsf, hx⟩ := shiftFn_code_lt f
  have hr := dReg_code_lt r
  simp only [word13, ShiftFn.bits, lowByte, Pair.low] at hw
  simp only [field]
  omega

theorem word9_fields {low c : Nat} (hw : w = word9 z amf y x low c) (hz : z < 2) (ha : amf < 32)
    (hy : y < 4) (hx : x < 8) (hl : low < 16) (hc : c < 16) :
    w / 2 ^ 19 = 0b00100 ∧ field w 18 1 = z ∧ field w 13 5 = amf ∧ field w 11 2 = y ∧ field w 8 3 = x ∧
      field w 4 4 = low ∧ field w 6 2 = low / 4 ∧ field w 4 2 = low % 4 ∧ field w 0 4 = c := by
  simp only [word9] at hw
  simp only [field]
  omega

end words

/-! ### Each form's word decodes to it -/

section decoding
variable {w : Nat}

theorem decodeNat_dualRead {d : XDual} {p : Pair} {e : YDual} {q : Pair} (hp : p.inDag1 = true)
    (hq : q.inDag2 = true) (hw : w = word1 d p e q) : decodeNat w = .ok (.dualRead d p e q) := by
  obtain ⟨hpre, he, hd, hamf, -, -, hqi, hqm, hpi, hpm⟩ := word1_fields clauseBits_zero hw
  simp [decodeNat_type1 hpre, orReserved, type1, he, hd, hamf, hqi, hqm, hpi, hpm, pairOf_dag1 hp,
    pairOf_dag2 hq]

theorem decodeNat_compDmPm {o : Comp} {d : XDual} {p : Pair} {e : YDual} {q : Pair} {b : Nat}
    (ho : o.notFeedback = true) (hp : p.inDag1 = true) (hq : q.inDag2 = true) (hb : o.bits = some b)
    (hw : w = word1 d p e q + b) : decodeNat w = .ok (.compDmPm o d p e q) := by
  obtain ⟨z, amf, y, x, hb, hne, hcomp, hz⟩ := Comp.clauseBits hb
  rw [hz ho] at hb hcomp
  obtain ⟨hpre, he, hd, hamf, hy, hx, hqi, hqm, hpi, hpm⟩ := word1_fields hb hw
  simp [decodeNat_type1 hpre, orReserved, type1, he, hd, hamf, hy, hx, hqi, hqm, hpi, hpm,
    pairOf_dag1 hp, pairOf_dag2 hq, hne, hcomp]

theorem decodeNat_aluWord {z : AluDest} {c : Cond} {f : AluFn} (hw : w = AluFn.word z c f) :
    decodeNat w = .ok (f.instr z c) := by
  obtain ⟨ha, hy, hx⟩ := aluFn_code_lt f
  have hge := f.amf_ge
  obtain ⟨hpre, hz, ha, hy, hx, hl, -, -, hc⟩ :=
    word9_fields hw (aluDest_code_lt z) ha hy hx (by decide) (cond_code_lt c)
  simp [decodeNat_type9 hpre, orReserved, type9, hz, ha, hy, hx, hl, hc, AluFn.ofCode_code,
    Nat.not_lt.mpr hge]

theorem decodeNat_macWord {z : MacDest} {c : Cond} {f : MacFn}
    (h : MacFn.word z c f = some w) : decodeNat w = .ok (f.instr z c) := by
  obtain ⟨q, hq, hw⟩ := Option.map_eq_some_iff.mp h
  obtain ⟨ha, hy, hx⟩ := macFn_code_lt hq
  obtain ⟨-, hlt⟩ := MacFn.amf_range hq
  obtain ⟨hpre, hz, ha, hy, hx, hl, -, -, hc⟩ :=
    word9_fields hw.symm (macDest_code_lt z) ha hy hx (by decide) (cond_code_lt c)
  obtain ⟨d, hd⟩ : ∃ d, AluDest.ofCode z.code = some d := by cases z <;> exact ⟨_, rfl⟩
  simp [decodeNat_type9 hpre, orReserved, type9, hz, ha, hy, hx, hl, hc, hd, hlt, MacFn.ofCode_code hq]

theorem decodeNat_passConst {amf : Nat} {z : AluDest} {c : Cond} {i : Instr}
    (h : passConstOf amf z c = some i) (hamf : amf = 16 ∨ amf = 17 ∨ amf = 24)
    (hw : w = word9 z.code amf 3 0 0 c.code) : decodeNat w = .ok i := by
  obtain ⟨hpre, hz, ha, hy, hx, hl, -, -, hc⟩ :=
    word9_fields hw (aluDest_code_lt z) (by omega) (by decide) (by decide) (by decide) (cond_code_lt c)
  have hnone : AluFn.ofCode amf 3 0 = none := by rcases hamf with rfl | rfl | rfl <;> rfl
  have hge : ¬ amf < 16 := by omega
  simp [decodeNat_type9 hpre, orReserved, type9, hz, ha, hy, hx, hl, hc, hnone, hge, h]

/-- A constant form of Type 9: YY and CC hold the bit number, BO the sense (R129). -/
theorem decodeNat_constWord {amf bo : Nat} {z : AluDest} {x : XAlu} {k : Bit} {c : Cond}
    (hamf : amf < 32) (hbo : bo = 1 ∨ bo = 3) (hw : w = constWord amf bo z x.code k c) :
    decodeNat w =
      orReserved 9 (if bo = 1 then bitConstOf amf z x k c else notBitConstOf amf z x k c) := by
  have hk := k.isLt
  obtain ⟨hpre, hz, hamf, hyy, hx, hlow, hcc, hfield, hc⟩ :=
    word9_fields hw (aluDest_code_lt z) hamf (by omega) (xAlu_code_lt x) (by omega) (cond_code_lt c)
  have hcc' : (k.val % 4 * 4 + bo) / 4 = k.val % 4 := by omega
  have hbo' : (k.val % 4 * 4 + bo) % 4 = bo := by omega
  have hbit : k.val / 4 * 4 + k.val % 4 = k.val := by omega
  rcases hbo with rfl | rfl <;>
    simp [decodeNat_type9 hpre, type9, hz, hamf, hyy, hx, hlow, hcc, hfield, hc, hcc', hbo', hbit]

theorem decodeNat_bitConst {amf : Nat} {z : AluDest} {x : XAlu} {k : Bit} {c : Cond} {i : Instr}
    (hamf : amf < 32) (hi : bitConstOf amf z x k c = some i) (hw : w = constWord amf 1 z x.code k c) :
    decodeNat w = .ok i := by
  rw [decodeNat_constWord hamf (.inl rfl) hw, if_pos rfl, hi, orReserved]

theorem decodeNat_notBitConst {amf : Nat} {z : AluDest} {x : XAlu} {k : Bit} {c : Cond} {i : Instr}
    (hamf : amf < 32) (hi : notBitConstOf amf z x k c = some i)
    (hw : w = constWord amf 3 z x.code k c) : decodeNat w = .ok i := by
  rw [decodeNat_constWord hamf (.inr rfl) hw, if_neg (by decide), hi, orReserved]

theorem decodeNat_powWord {amf : Nat} {z : AluDest} {x : XAlu} {k : Constant} {c : Cond}
    {i : Instr} (hamf : amf < 32) (hi : ∀ b, k = .pow b → bitConstOf amf z x b c = some i)
    (h : powWord amf z x.code k c = some w) : decodeNat w = .ok i := by
  cases k with
  | pow b => exact decodeNat_bitConst hamf (hi b rfl) (Option.some.inj h).symm
  | other v => cases h

section moves
variable {b n : Nat} {p : Pair} {r : DReg} {o : Comp}

theorem decodeNat_word4_move (hp : p.sameDag = true) (hn : n < 2) (hw : w = word4 p n r) :
    decodeNat w = .ok (if n = 0 then .dregDm r p else .dmDreg p r) := by
  obtain ⟨hpre, hg, hd, -, hamf, -, -, hr, hi, hm⟩ := word4_fields clauseBits_zero hn hw
  simp [decodeNat_type4 hpre, type4, hg, hd, hamf, hr, hi, hm, pairOf_sameDag hp, orReserved_ite]

theorem decodeNat_word4_comp (hp : p.sameDag = true) (hn : n < 2) (ho : o.bits = some b)
    (hw : w = word4 p n r + b) :
    decodeNat w = .ok (if n = 0 then .compDm o r p else .dmComp p r o) := by
  obtain ⟨z, amf, y, x, hb, hne, hcomp, -⟩ := Comp.clauseBits ho
  obtain ⟨hpre, hg, hd, hz, hamf, hy, hx, hr, hi, hm⟩ := word4_fields hb hn hw
  simp [decodeNat_type4 hpre, type4, hg, hd, hz, hamf, hy, hx, hr, hi, hm, pairOf_sameDag hp, hne,
    hcomp, orReserved_ite]

theorem decodeNat_word5_move (hp : p.inDag2 = true) (hn : n < 2) (hw : w = word5 p n r) :
    decodeNat w = .ok (if n = 0 then .dregPm r p else .pmDreg p r) := by
  obtain ⟨hpre, hd, -, hamf, -, -, hr, hi, hm⟩ := word5_fields clauseBits_zero hn hw
  simp [decodeNat_type5 hpre, type5, hd, hamf, hr, hi, hm, pairOf_dag2 hp, orReserved_ite]

theorem decodeNat_word5_comp (hp : p.inDag2 = true) (hn : n < 2) (ho : o.bits = some b)
    (hw : w = word5 p n r + b) :
    decodeNat w = .ok (if n = 0 then .compPm o r p else .pmComp p r o) := by
  obtain ⟨z, amf, y, x, hb, hne, hcomp, -⟩ := Comp.clauseBits ho
  obtain ⟨hpre, hd, hz, hamf, hy, hx, hr, hi, hm⟩ := word5_fields hb hn hw
  simp [decodeNat_type5 hpre, type5, hd, hz, hamf, hy, hx, hr, hi, hm, pairOf_dag2 hp, hne, hcomp,
    orReserved_ite]

theorem decodeNat_word12 {f : ShiftFn} (hp : p.sameDag = true) (hn : n < 2)
    (hw : w = word12 p n r f) :
    decodeNat w = .ok (if n = 0 then .shiftDm f r p else .dmShift p r f) := by
  obtain ⟨hpre, hg, hd, hsf, hx, hr, hi, hm⟩ := word12_fields hn hw
  simp [decodeNat_type12 hpre, type12, hg, hd, hsf, hx, hr, hi, hm, pairOf_sameDag hp,
    ShiftFn.ofCode_code, orReserved_ite]

theorem decodeNat_word13 {f : ShiftFn} (hp : p.inDag2 = true) (hn : n < 2)
    (hw : w = word13 p n r f) :
    decodeNat w = .ok (if n = 0 then .shiftPm f r p else .pmShift p r f) := by
  obtain ⟨hpre, hd, hsf, hx, hr, hi, hm⟩ := word13_fields hn hw
  simp [decodeNat_type13 hpre, type13, hd, hsf, hx, hr, hi, hm, pairOf_dag2 hp,
    ShiftFn.ofCode_code, orReserved_ite]

end moves

theorem decodeNat_dmData {p : Pair} {v : Word} (hp : p.sameDag = true)
    (hw : w = 0b101 * 2 ^ 21 + p.g * 2 ^ 20 + v.toNat * 2 ^ 4 + p.low) :
    decodeNat w = .ok (.dmData p v) := by
  obtain ⟨hpre, hg, hv, hi, hm⟩ : w / 2 ^ 21 = 0b101 ∧ field w 20 1 = p.g ∧
      field w 4 16 = v.toNat ∧ field w 2 2 = p.i.val % 4 ∧ field w 0 2 = p.m.val % 4 := by
    have hg := (low_lt p).2
    have hv := Word.toNat_lt v
    simp only [Pair.low] at hw
    simp only [field]
    omega
  simp [decodeNat_type2 hpre, orReserved, type2, hg, hv, hi, hm, pairOf_sameDag hp]

theorem decodeNat_direct {n : Nat} {r : Reg} {a : Addr} (hn : n < 2)
    (hw : w = (0b1000 + n) * 2 ^ 20 + r.code.1 * 2 ^ 18 + a.toNat * 2 ^ 4 + r.code.2) :
    decodeNat w = .ok (if n = 0 then .regDmAddr r a else .dmAddrReg a r) := by
  obtain ⟨hpre, hd, hg, ha, hr⟩ : w / 2 ^ 21 = 0b100 ∧ field w 20 1 = n ∧
      field w 18 2 = r.code.1 ∧ field w 4 14 = a.toNat ∧ field w 0 4 = r.code.2 := by
    have hr := reg_code_lt r
    have ha := Addr.toNat_lt a
    simp only [field]
    omega
  simp [decodeNat_type3 hpre, type3, hd, hg, ha, hr, orReserved_ite]

theorem decodeNat_dregData {d : DReg} {v : Word}
    (hw : w = 0b0100 * 2 ^ 20 + v.toNat * 2 ^ 4 + d.code) : decodeNat w = .ok (.dregData d v) := by
  obtain ⟨hpre, hv, hd⟩ : w / 2 ^ 20 = 0b0100 ∧ field w 4 16 = v.toNat ∧ field w 0 4 = d.code := by
    have hd := dReg_code_lt d
    have hv := Word.toNat_lt v
    simp only [field]
    omega
  simp [decodeNat_type6 hpre, orReserved, type6, hv, hd]

theorem decodeNat_regData {r : Reg} {v : Addr} (hr : r.takesData v = true)
    (hw : w = 0b0011 * 2 ^ 20 + r.code.1 * 2 ^ 18 + v.toNat * 2 ^ 4 + r.code.2) :
    decodeNat w = .ok (.regData r v) := by
  obtain ⟨hpre, hg, hv, hcode⟩ : w / 2 ^ 20 = 0b0011 ∧ field w 18 2 = r.code.1 ∧
      field w 4 14 = v.toNat ∧ field w 0 4 = r.code.2 := by
    have hcode := reg_code_lt r
    have hv := Addr.toNat_lt v
    simp only [field]
    omega
  simp [decodeNat_type7 hpre, orReserved, type7, hg, hv, hcode, hr]

theorem decodeNat_compMove {o : Comp} {d r : DReg} {b : Nat} (ho : o.bits = some b)
    (hw : w = 0b00101 * 2 ^ 19 + b + d.code * 2 ^ 4 + r.code) :
    decodeNat w = .ok (.compMove o d r) := by
  obtain ⟨z, amf, y, x, hb, -, hcomp, -⟩ := Comp.clauseBits ho
  obtain ⟨hpre, hz, hamf, hy, hx, hd, hr⟩ : w / 2 ^ 19 = 0b00101 ∧ field w 18 1 = z ∧
      field w 13 5 = amf ∧ field w 11 2 = y ∧ field w 8 3 = x ∧ field w 4 4 = d.code ∧
      field w 0 4 = r.code := by
    obtain ⟨rfl, hz, hamf, hy, hx⟩ := hb
    have hd := dReg_code_lt d
    have hr := dReg_code_lt r
    simp only [field]
    omega
  simp [decodeNat_type8 hpre, orReserved, type8, hz, hamf, hy, hx, hd, hr, hcomp]

theorem decodeNat_jumpOrCall {n : Nat} {a : Addr} {c : Cond} (hn : n < 2)
    (hw : w = (0b000110 + n) * 2 ^ 18 + a.toNat * 2 ^ 4 + c.code) :
    decodeNat w = .ok (if n = 0 then .jumpAddr a c else .callAddr a c) := by
  obtain ⟨hpre, hs, ha, hc⟩ : w / 2 ^ 19 = 0b00011 ∧ field w 18 1 = n ∧ field w 4 14 = a.toNat ∧
      field w 0 4 = c.code := by
    have ha := Addr.toNat_lt a
    have hc := cond_code_lt c
    simp only [field]
    omega
  simp [decodeNat_type10 hpre, type10, hs, ha, hc, orReserved_ite]

theorem decodeNat_doUntil {a : Addr} {t : Term}
    (hw : w = 0b000101 * 2 ^ 18 + a.toNat * 2 ^ 4 + t.code) :
    decodeNat w = .ok (.doUntil a t) := by
  obtain ⟨hpre, ha, ht⟩ : w / 2 ^ 18 = 0b000101 ∧ field w 4 14 = a.toNat ∧
      field w 0 4 = t.code := by
    have ha := Addr.toNat_lt a
    have ht := term_code_lt t
    simp only [field]
    omega
  simp [decodeNat_type11 hpre, orReserved, type11, ha, ht]

theorem decodeNat_shiftMove {f : ShiftFn} {d r : DReg}
    (hw : w = 0b000100000 * 2 ^ 15 + f.bits + d.code * 2 ^ 4 + r.code) :
    decodeNat w = .ok (.shiftMove f d r) := by
  obtain ⟨hpre, hsf, hx, hd, hr⟩ : w / 2 ^ 15 = 0b000100000 ∧ field w 11 4 = f.code.1 ∧
      field w 8 3 = f.code.2 ∧ field w 4 4 = d.code ∧ field w 0 4 = r.code := by
    have hf := shiftFn_code_lt f
    have hd := dReg_code_lt d
    have hr := dReg_code_lt r
    simp only [ShiftFn.bits] at hw
    simp only [field]
    omega
  simp [decodeNat_type14 hpre, orReserved, type14, hsf, hx, hd, hr, ShiftFn.ofCode_code]

theorem decodeNat_shiftWord {f : ShiftFn} {c : Cond} (hw : w = ShiftFn.word c f) :
    decodeNat w = .ok (f.instr c) := by
  obtain ⟨hpre, hsf, hx, hzero, hc⟩ : w / 2 ^ 15 = 0b000011100 ∧ field w 11 4 = f.code.1 ∧
      field w 8 3 = f.code.2 ∧ field w 4 4 = 0 ∧ field w 0 4 = c.code := by
    have hf := shiftFn_code_lt f
    have hc := cond_code_lt c
    simp only [ShiftFn.word] at hw
    simp only [field]
    omega
  simp [decodeNat_type16 hpre, orReserved, type16, hsf, hx, hzero, hc, ShiftFn.ofCode_code]

theorem word15_fields {n : ShiftKind} {o : Bool} {x : XShift} {e : Exp8} {h : Half}
    (hw : w = word15 n o x e h) :
    w / 2 ^ 15 = 0b000011110 ∧ field w 13 2 = n.code / 4 ∧ field w 12 1 = h.code ∧
      field w 11 1 = bitCode o ∧ field w 8 3 = x.code ∧ field w 0 8 = e.toNat := by
  have hn : n.code = 0 ∨ n.code = 4 ∨ n.code = 8 := by cases n <;> decide
  have hh := half_code_lt h
  have ho := bitCode_lt o
  have hx := xShift_code_lt x
  have he : e.toNat < 256 := e.isLt
  simp only [word15] at hw
  simp only [field]
  omega

theorem decodeNat_lshiftImm {o : Bool} {x : XShift} {e : Exp8} {h : Half}
    (hw : w = word15 .lshift o x e h) : decodeNat w = .ok (.lshiftImm o x e h) := by
  obtain ⟨hpre, hn, hh, ho, hx, he⟩ := word15_fields hw
  simp [decodeNat_type15 hpre, orReserved, type15, hn, hh, ho, hx, he, ShiftKind.code]

theorem decodeNat_ashiftImm {o : Bool} {x : XShift} {e : Exp8} {h : Half}
    (hw : w = word15 .ashift o x e h) : decodeNat w = .ok (.ashiftImm o x e h) := by
  obtain ⟨hpre, hn, hh, ho, hx, he⟩ := word15_fields hw
  simp [decodeNat_type15 hpre, orReserved, type15, hn, hh, ho, hx, he, ShiftKind.code]

theorem decodeNat_regReg {d r : Reg}
    (hw : w = 0b000011010000 * 2 ^ 12 + d.code.1 * 2 ^ 10 + r.code.1 * 2 ^ 8 + d.code.2 * 2 ^ 4 +
      r.code.2) : decodeNat w = .ok (.regReg d r) := by
  obtain ⟨hpre, hdg, hrg, hd, hr⟩ : w / 2 ^ 12 = 0b000011010000 ∧ field w 10 2 = d.code.1 ∧
      field w 8 2 = r.code.1 ∧ field w 4 4 = d.code.2 ∧ field w 0 4 = r.code.2 := by
    have hd := reg_code_lt d
    have hr := reg_code_lt r
    simp only [field]
    omega
  simp [decodeNat_type17 hpre, orReserved, type17, hdg, hrg, hd, hr]

theorem decodeNat_word18 {o : ModeOps} (hw : w = word18 o) : decodeNat w = .ok o.instr := by
  obtain ⟨hpre, h0, h14, h12, h10, h8, h6, h4, h2⟩ : w / 2 ^ 16 = 0b00001100 ∧ field w 0 2 = 0 ∧
      field w 14 2 = o.timer.code ∧ field w 12 2 = o.mMode.code ∧ field w 10 2 = o.arSat.code ∧
      field w 8 2 = o.avLatch.code ∧ field w 6 2 = o.bitRev.code ∧ field w 4 2 = o.secReg.code ∧
      field w 2 2 = o.gMode.code := by
    have htimer := switch_code_lt o.timer
    have hmMode := switch_code_lt o.mMode
    have harSat := switch_code_lt o.arSat
    have havLatch := switch_code_lt o.avLatch
    have hbitRev := switch_code_lt o.bitRev
    have hsecReg := switch_code_lt o.secReg
    have hgMode := switch_code_lt o.gMode
    simp only [word18] at hw
    simp only [field]
    omega
  simp [decodeNat_type18 hpre, orReserved, type18, h0, h14, h12, h10, h8, h6, h4, h2]

/-- A statement of one clause has its own constructor; any other stays (log 9). -/
theorem ModeOps.instr_of_count_ne_one {o : ModeOps} (h : o.count ≠ 1) : o.instr = .modeControl o := by
  unfold ModeOps.instr
  split
  case h_15 => rfl
  all_goals exact absurd rfl h

theorem decodeNat_jumpInd {k : DagIdx} {c : Cond}
    (hw : w = 0b0000101100000000 * 2 ^ 8 + k.val * 2 ^ 6 + c.code) :
    decodeNat w = .ok (.jumpInd k c) := by
  obtain ⟨hpre, hk, hzero, hs, hc⟩ : w / 2 ^ 8 = 0b0000101100000000 ∧ field w 6 2 = k.val ∧
      field w 5 1 = 0 ∧ field w 4 1 = 0 ∧ field w 0 4 = c.code := by
    have hk := k.isLt
    have hc := cond_code_lt c
    simp only [field]
    omega
  simp [decodeNat_type19 hpre, orReserved, type19, hk, hzero, hs, hc]

theorem decodeNat_callInd {k : DagIdx} {c : Cond}
    (hw : w = 0b0000101100000000 * 2 ^ 8 + k.val * 2 ^ 6 + 2 ^ 4 + c.code) :
    decodeNat w = .ok (.callInd k c) := by
  obtain ⟨hpre, hk, hzero, hs, hc⟩ : w / 2 ^ 8 = 0b0000101100000000 ∧ field w 6 2 = k.val ∧
      field w 5 1 = 0 ∧ field w 4 1 = 1 ∧ field w 0 4 = c.code := by
    have hk := k.isLt
    have hc := cond_code_lt c
    simp only [field]
    omega
  simp [decodeNat_type19 hpre, orReserved, type19, hk, hzero, hs, hc]

theorem decodeNat_rts {c : Cond} (hw : w = 0b0000101000000000000 * 2 ^ 5 + c.code) :
    decodeNat w = .ok (.rts c) := by
  obtain ⟨hpre, ht, hc⟩ : w / 2 ^ 5 = 0b0000101000000000000 ∧ field w 4 1 = 0 ∧
      field w 0 4 = c.code := by
    have hc := cond_code_lt c
    simp only [field]
    omega
  simp [decodeNat_type20 hpre, orReserved, type20, ht, hc]

theorem decodeNat_rti {c : Cond} (hw : w = 0b0000101000000000000 * 2 ^ 5 + 2 ^ 4 + c.code) :
    decodeNat w = .ok (.rti c) := by
  obtain ⟨hpre, ht, hc⟩ : w / 2 ^ 5 = 0b0000101000000000000 ∧ field w 4 1 = 1 ∧
      field w 0 4 = c.code := by
    have hc := cond_code_lt c
    simp only [field]
    omega
  simp [decodeNat_type20 hpre, orReserved, type20, ht, hc]

theorem decodeNat_modify {p : Pair} (hp : p.sameDag = true)
    (hw : w = 0b0000100100000000000 * 2 ^ 5 + p.g * 2 ^ 4 + p.low) :
    decodeNat w = .ok (.modify p) := by
  obtain ⟨hpre, hg, hi, hm⟩ : w / 2 ^ 5 = 0b0000100100000000000 ∧ field w 4 1 = p.g ∧
      field w 2 2 = p.i.val % 4 ∧ field w 0 2 = p.m.val % 4 := by
    have hg := (low_lt p).2
    simp only [Pair.low] at hw
    simp only [field]
    omega
  simp [decodeNat_type21 hpre, orReserved, type21, hg, hi, hm, pairOf_sameDag hp]

theorem decodeNat_divq {x : XAlu} (hw : w = 0b0000011100010 * 2 ^ 11 + x.code * 2 ^ 8) :
    decodeNat w = .ok (.divq x) := by
  obtain ⟨hpre, hx, hzero⟩ : w / 2 ^ 11 = 0b0000011100010 ∧ field w 8 3 = x.code ∧
      field w 0 8 = 0 := by
    have hx := xAlu_code_lt x
    simp only [field]
    omega
  simp [decodeNat_type23 hpre, orReserved, type23, hx, hzero]

theorem decodeNat_divs {y : YAlu} {x : XAlu} (hy : y.divisible = true)
    (hw : w = 0b00000110000 * 2 ^ 13 + y.code * 2 ^ 11 + x.code * 2 ^ 8) :
    decodeNat w = .ok (.divs y x) := by
  obtain ⟨hpre, hyf, hx, hzero⟩ : w / 2 ^ 13 = 0b00000110000 ∧ field w 11 2 = y.code ∧
      field w 8 3 = x.code ∧ field w 0 8 = 0 := by
    have hy := yAlu_code_lt y
    have hx := xAlu_code_lt x
    simp only [field]
    omega
  simp [decodeNat_type24 hpre, orReserved, type24, hyf, hx, hzero, hy]

theorem decodeNat_word26 {o : StackOps} {i : Instr} (hi : o.instr = some i) (hw : w = word26 o) :
    decodeNat w = .ok i := by
  obtain ⟨hpre, hpc, hloop, hcntr, hsts⟩ : w / 2 ^ 5 = 0b0000010000000000000 ∧
      field w 4 1 = bitCode o.pc ∧ field w 3 1 = bitCode o.loop ∧ field w 2 1 = bitCode o.cntr ∧
      field w 0 2 = stsCode o.sts := by
    have hpc := bitCode_lt o.pc
    have hloop := bitCode_lt o.loop
    have hcntr := bitCode_lt o.cntr
    have hsts := stsCode_lt o.sts
    simp only [word26] at hw
    simp only [field]
    omega
  simp [decodeNat_type26 hpre, orReserved, type26, hpc, hloop, hcntr, hsts, hi]

theorem StackOps.instr_of_two_le_count {o : StackOps} (h : 2 ≤ o.count) :
    o.instr = some (.stackControl o) := by
  unfold StackOps.instr
  split
  case h_7 => rfl
  all_goals exact absurd h (by decide)

theorem word27_fields {n : Bool} {a : Addr} {call : Nat} (hcall : call < 2)
    (hw : w = word27 n a call) :
    w / 2 ^ 16 = 0b00000011 ∧ field w 2 2 = a.toNat / 4096 ∧ field w 4 12 = a.toNat % 4096 ∧
      field w 1 1 = bitCode (!n) ∧ field w 0 1 = call := by
  have hhigh : a.toNat / 4096 < 4 := Nat.div_lt_of_lt_mul (Addr.toNat_lt a)
  have hlow : a.toNat % 4096 < 4096 := Nat.mod_lt _ (by decide)
  have hn := bitCode_lt (!n)
  simp only [word27] at hw
  generalize a.toNat / 4096 = high, a.toNat % 4096 = low at *
  simp only [field]
  omega

theorem decodeNat_jumpFlag {n : Bool} {a : Addr} (hw : w = word27 n a 0) :
    decodeNat w = .ok (.jumpFlag n a) := by
  obtain ⟨hpre, hhigh, hlow, hn, hcall⟩ := word27_fields (by decide) hw
  simp [decodeNat_type27 hpre, orReserved, type27, hhigh, hlow, Nat.div_add_mod', hn, hcall]

theorem decodeNat_callFlag {n : Bool} {a : Addr} (hw : w = word27 n a 1) :
    decodeNat w = .ok (.callFlag n a) := by
  obtain ⟨hpre, hhigh, hlow, hn, hcall⟩ := word27_fields (by decide) hw
  simp [decodeNat_type27 hpre, orReserved, type27, hhigh, hlow, Nat.div_add_mod', hn, hcall]

theorem decodeNat_flagOut {o : FlagOps} {c : Cond}
    (hw : w = 0b000000100000 * 2 ^ 12 + o.fl2.code * 2 ^ 10 + o.fl1.code * 2 ^ 8 +
      o.fl0.code * 2 ^ 6 + o.fo.code * 2 ^ 4 + c.code) : decodeNat w = .ok (.flagOut o c) := by
  obtain ⟨hpre, hfl2, hfl1, hfl0, hfo, hc⟩ : w / 2 ^ 12 = 0b000000100000 ∧
      field w 10 2 = o.fl2.code ∧ field w 8 2 = o.fl1.code ∧ field w 6 2 = o.fl0.code ∧
      field w 4 2 = o.fo.code ∧ field w 0 4 = c.code := by
    have hfl2 := flagOp_code_lt o.fl2
    have hfl1 := flagOp_code_lt o.fl1
    have hfl0 := flagOp_code_lt o.fl0
    have hfo := flagOp_code_lt o.fo
    have hc := cond_code_lt c
    simp only [field]
    omega
  simp [decodeNat_type28 hpre, orReserved, type28, hfl2, hfl1, hfl0, hfo, hc]

theorem decodeNat_idleN {n : IdleDiv} (hw : w = 0b00000010100000000000 * 2 ^ 4 + n.code) :
    decodeNat w = .ok (.idleN n) := by
  obtain ⟨hpre, hn, hne⟩ : w / 2 ^ 4 = 0b00000010100000000000 ∧ field w 0 4 = n.code ∧
      n.code ≠ 0 := by
    have hlt : 0 < n.code ∧ n.code < 16 := by cases n <;> decide
    simp only [field]
    omega
  simp [decodeNat_type31 hpre, orReserved, type31, hn, hne]

end decoding

/-- The word of a well-formed instruction decodes to its canonical form: the constructors by format,
each with the lemma about the word it shares. -/
theorem decodeNat_encodeNat {i : Instr} {w : Nat} (hwf : i.wellFormed = true)
    (h : encodeNat i = some w) : decodeNat w = .ok i.canonical := by
  cases i with
  | addXY | addXC | addXYC | subXY | subXYC | subXC | subYX | subYXC | negXC | andXY | orXY | xorXY
  | passX | passY | negX | negY | notX | notY | absX | incY | decY =>
    have hdec := decodeNat_aluWord (Option.some.inj h).symm
    exact hdec
  | mulRnd | mulSs | mulSu | mulUs | mulUu | macRnd | macSs | macSu | macUs | macUu | msubRnd | msubSs
  | msubSu | msubUs | msubUu | mrZero | mrMr | mrMrRnd =>
    have hdec := decodeNat_macWord h
    exact hdec
  | addXK | addXKC | subXK | subXKC | subKX | subKXC | andXK | orXK | xorXK =>
    exact decodeNat_powWord (by decide) (by rintro _ rfl; rfl) h
  | passK => exact decodeNat_powWord (x := .ax0) (by decide) (by rintro _ rfl; rfl) h
  | addXNK | addXNKC | subXNK | subXNKC | subNKX | subNKXC | andXNK | orXNK | xorXNK | clrbit =>
    exact decodeNat_notBitConst (by decide) rfl (Option.some.inj h).symm
  | passNK =>
    exact decodeNat_notBitConst (x := .ax0) (by decide) rfl (Option.some.inj h).symm
  | tstbit | setbit | tglbit => exact decodeNat_bitConst (by decide) rfl (Option.some.inj h).symm
  | pass0 | pass1 | passM1 => exact decodeNat_passConst rfl (by decide) (Option.some.inj h).symm
  | noneAlu | square | enaInts | disInts => cases h
  | divs => exact decodeNat_divs hwf (Option.some.inj h).symm
  | divq => exact decodeNat_divq (Option.some.inj h).symm
  | satMr | idle | nop => cases h; rfl
  | ashift | lshift | norm | expHi | expHix | expLo | expadj =>
    have hdec := decodeNat_shiftWord (Option.some.inj h).symm
    exact hdec
  | ashiftImm => exact decodeNat_ashiftImm (Option.some.inj h).symm
  | lshiftImm => exact decodeNat_lshiftImm (Option.some.inj h).symm
  | regReg => exact decodeNat_regReg (Option.some.inj h).symm
  | regDmAddr => exact decodeNat_direct (n := 0) (by decide) (Option.some.inj h).symm
  | dmAddrReg => exact decodeNat_direct (n := 1) (by decide) (Option.some.inj h).symm
  | dregDm | dmDreg => exact decodeNat_word4_move hwf (by decide) (Option.some.inj h).symm
  | dregPm | pmDreg => exact decodeNat_word5_move hwf (by decide) (Option.some.inj h).symm
  | dmData => exact decodeNat_dmData hwf (Option.some.inj h).symm
  | dregData => exact decodeNat_dregData (Option.some.inj h).symm
  | regData => exact decodeNat_regData hwf (Option.some.inj h).symm
  | jumpAddr => exact decodeNat_jumpOrCall (n := 0) (by decide) (Option.some.inj h).symm
  | callAddr => exact decodeNat_jumpOrCall (n := 1) (by decide) (Option.some.inj h).symm
  | jumpInd => exact decodeNat_jumpInd (Option.some.inj h).symm
  | callInd => exact decodeNat_callInd (Option.some.inj h).symm
  | jumpFlag => exact decodeNat_jumpFlag (Option.some.inj h).symm
  | callFlag => exact decodeNat_callFlag (Option.some.inj h).symm
  | rts => exact decodeNat_rts (Option.some.inj h).symm
  | rti => exact decodeNat_rti (Option.some.inj h).symm
  | doUntil => exact decodeNat_doUntil (Option.some.inj h).symm
  | idleN => exact decodeNat_idleN (Option.some.inj h).symm
  | stackControl o =>
    exact decodeNat_word26 (StackOps.instr_of_two_le_count (of_decide_eq_true hwf))
      (Option.some.inj h).symm
  | pushSts | popSts | popCntr | popPc | popLoop =>
    exact decodeNat_word26 rfl (Option.some.inj h).symm
  | modeControl o =>
    rw [decodeNat_word18 (Option.some.inj h).symm,
      ModeOps.instr_of_count_ne_one (of_decide_eq_true hwf), Instr.canonical]
  | enaTimer | disTimer | enaMMode | disMMode | enaArSat | disArSat | enaAvLatch | disAvLatch
  | enaBitRev | disBitRev | enaSecReg | disSecReg | enaGMode | disGMode =>
    exact decodeNat_word18 (Option.some.inj h).symm
  | modify => exact decodeNat_modify hwf (Option.some.inj h).symm
  | flagOut => exact decodeNat_flagOut (Option.some.inj h).symm
  | dualRead d p e q =>
    obtain ⟨hp, hq⟩ := Bool.and_eq_true_iff.mp hwf
    exact decodeNat_dualRead hp hq (Option.some.inj h).symm
  | compDmPm o d p e q =>
    obtain ⟨b, ho, hw⟩ := Option.map_eq_some_iff.mp h
    simp only [Instr.wellFormed, Bool.and_eq_true] at hwf
    obtain ⟨⟨⟨-, hz⟩, hp⟩, hq⟩ := hwf
    exact decodeNat_compDmPm hz hp hq ho hw.symm
  | compDm o d p | dmComp p r o =>
    obtain ⟨b, ho, hw⟩ := Option.map_eq_some_iff.mp h
    exact decodeNat_word4_comp (Bool.and_eq_true_iff.mp hwf).2 (by decide) ho hw.symm
  | compPm o d p | pmComp p r o =>
    obtain ⟨b, ho, hw⟩ := Option.map_eq_some_iff.mp h
    exact decodeNat_word5_comp (Bool.and_eq_true_iff.mp hwf).2 (by decide) ho hw.symm
  | compMove o d r =>
    obtain ⟨b, ho, hw⟩ := Option.map_eq_some_iff.mp h
    exact decodeNat_compMove ho hw.symm
  | shiftDm | dmShift => exact decodeNat_word12 hwf (by decide) (Option.some.inj h).symm
  | shiftPm | pmShift => exact decodeNat_word13 hwf (by decide) (Option.some.inj h).symm
  | shiftMove => exact decodeNat_shiftMove (Option.some.inj h).symm

/-! ### Every instruction with a word (R129) -/

/-- A computation clause that is no squaring form has bits. -/
theorem Comp.exists_bits {o : Comp} (h : ∀ n m x z, o ≠ .mac (.square n m x) z) :
    ∃ b, o.bits = some b := by
  cases o with
  | alu f z => exact ⟨_, rfl⟩
  | mac f z =>
    cases f with
    | square n m x => exact absurd rfl (h n m x z)
    | prod | zero | mr | mrRnd => exact ⟨_, rfl⟩

/-- The annex has the word of every instruction that `hasWord` says has one (log 10). -/
theorem exists_encodeNat {i : Instr} (h : hasWord i = true) : ∃ w, encodeNat i = some w := by
  cases i with
  | addXK _ _ k | addXKC _ _ k | subXK _ _ k | subXKC _ _ k | subKX _ _ k | subKXC _ _ k
  | andXK _ _ k | orXK _ _ k | xorXK _ _ k | passK _ k =>
    cases k with
    | pow b => exact ⟨_, rfl⟩
    | other v => cases h
  | compDmPm o | compDm o | compPm o | dmComp _ _ o | pmComp _ _ o | compMove o =>
    obtain ⟨b, hb⟩ := Comp.exists_bits (o := o) (by rintro n m x z rfl; cases h)
    exact ⟨_, congrArg (Option.map _) hb⟩
  | noneAlu | square | enaInts | disInts => cases h
  | _ => exact ⟨_, rfl⟩

theorem canonical_eq_self {i : Instr} (h : isBitOp i = false) : i.canonical = i := by
  cases i with
  | tstbit | setbit | clrbit | tglbit => cases h
  | _ => rfl

theorem decode_ofNat {w : Nat} (h : w < 2 ^ 24) : decode (BitVec.ofNat 24 w) = decodeNat w := by
  rw [decode, BitVec.toNat_ofNat, Nat.mod_eq_of_lt h]

/-- Settles O8: `decodeNat_encodeNat`, the constructors by format; the word has 24 bits since it
decodes. -/
theorem decodeEncode : Obligations.DecodeEncode := by
  unfold Obligations.DecodeEncode
  intro i hwf
  refine ⟨exists_encodeNat, fun w hw => ?_⟩
  have hdec : decodeNat w = .ok i.canonical := decodeNat_encodeNat hwf hw
  have hlt : w < 2 ^ 24 := lt_of_decodeNat_ok hdec
  exact ⟨hlt, (decode_ofNat hlt).trans hdec, canonical_eq_self⟩

/-! ### What a word decodes to (R127, R131) -/

/-- Every instruction that a decoding function answers has its operands in their classes. -/
def AnswersWellFormed (r : Option Instr) : Prop := ∀ i, r = some i → i.wellFormed = true

namespace AnswersWellFormed

theorem none : AnswersWellFormed .none := fun _ h => nomatch h

theorem some {i : Instr} (h : i.wellFormed = true) : AnswersWellFormed (.some i) :=
  fun _ e => Option.some.inj e ▸ h

theorem bind {α : Type} {o : Option α} {f : α → Option Instr}
    (h : ∀ a, o = .some a → AnswersWellFormed (f a)) : AnswersWellFormed (o >>= f) := by
  intro i e
  obtain ⟨a, ha, hi⟩ := Option.bind_eq_some_iff.mp e
  exact h a ha i hi

theorem ite {c : Prop} [Decidable c] {r q : Option Instr} (hr : AnswersWellFormed r)
    (hq : AnswersWellFormed q) : AnswersWellFormed (if c then r else q) := by
  split
  · exact hr
  · exact hq

/-- A check that the operand is in its class. -/
theorem guard {c : Prop} [Decidable c] {i : Instr} (h : c → i.wellFormed = true) :
    AnswersWellFormed (if c then .some i else .none) := by
  split
  · exact some (h ‹_›)
  · exact none

theorem map {α : Type} {o : Option α} {f : α → Instr} (h : ∀ a, (f a).wellFormed = true) :
    AnswersWellFormed (o.map f) := by
  intro i e
  obtain ⟨a, -, rfl⟩ := Option.map_eq_some_iff.mp e
  exact h a

end AnswersWellFormed

theorem pairOf_one_inDag2 (i m : Nat) : (pairOf 1 i m).inDag2 = true := by
  have hi : (dagReg 4 i).val = 4 + i % 4 := by simp [dagReg]; omega
  have hm : (dagReg 4 m).val = 4 + m % 4 := by simp [dagReg]; omega
  simp [pairOf, Pair.inDag2, hi, hm]

theorem pairOf_zero_inDag1 (i m : Nat) : (pairOf 0 i m).inDag1 = true := by
  have hi : (dagReg 0 i).val = i % 4 := by simp [dagReg]; omega
  have hm : (dagReg 0 m).val = m % 4 := by simp [dagReg]; omega
  simp [pairOf, Pair.inDag1, hi, hm]; omega

theorem field_one_bit (w lo : Nat) : field w lo 1 = 0 ∨ field w lo 1 = 1 := by
  unfold field; omega

theorem pairOf_bit_sameDag (w lo i m : Nat) : (pairOf (field w lo 1) i m).sameDag = true := by
  rw [Pair.sameDag, Bool.or_eq_true]
  rcases field_one_bit w lo with h | h
  · rw [h]
    exact .inl (pairOf_zero_inDag1 i m)
  · rw [h]
    exact .inr (pairOf_one_inDag2 i m)

/-- The annex has no word for a squaring form (log 10). -/
theorem MacFn.ofCode_not_square {amf y x : Nat} {f : MacFn} (h : MacFn.ofCode amf y x = some f) :
    ∀ n m x, f ≠ .square n m x := by
  rintro n m xr rfl
  unfold MacFn.ofCode at h
  split at h
  · split at h <;> cases h
  · simp only [Option.bind_eq_bind, Option.bind_eq_some_iff] at h
    obtain ⟨_, -, _, -, _, -, h⟩ := h
    cases h

/-- The clause a word's fields hold is one that R159 admits, no squaring form, with the result
register as destination where Z is 0. -/
theorem Comp.ofCode_admitted {z amf y x : Nat} {o : Comp} (h : Comp.ofCode z amf y x = some o) :
    o.admitted = true ∧ (z = 0 → o.notFeedback = true) := by
  unfold Comp.ofCode at h
  split at h
  · simp only [Option.bind_eq_bind, Option.bind_eq_some_iff, Option.some.injEq] at h
    obtain ⟨f, hf, d, hd, rfl⟩ := h
    refine ⟨?_, ?_⟩
    · cases f with
      | square n m x => exact absurd rfl (MacFn.ofCode_not_square hf n m x)
      | _ => rfl
    · rintro rfl; cases hd; rfl
  · simp only [Option.bind_eq_bind, Option.bind_eq_some_iff, Option.some.injEq] at h
    obtain ⟨f, hf, d, hd, rfl⟩ := h
    refine ⟨rfl, ?_⟩
    rintro rfl; cases hd; rfl

theorem AluFn.instr_wellFormed (z : AluDest) (c : Cond) (f : AluFn) :
    (f.instr z c).wellFormed = true := by cases f <;> rfl

theorem MacFn.instr_wellFormed {amf y x : Nat} {f : MacFn} (h : MacFn.ofCode amf y x = some f)
    (z : MacDest) (c : Cond) : (f.instr z c).wellFormed = true := by
  cases f with
  | prod n m x y => cases n <;> cases m <;> rfl
  | square n m x => exact absurd rfl (MacFn.ofCode_not_square h n m x)
  | zero | mr | mrRnd => rfl

theorem ShiftFn.instr_wellFormed (c : Cond) (f : ShiftFn) : (f.instr c).wellFormed = true := by
  cases f with
  | shift n o h x => cases n <;> rfl
  | exp n x => cases n <;> rfl
  | expadj x => rfl

theorem passConstOf_wellFormed (amf : Nat) (z : AluDest) (c : Cond) :
    AnswersWellFormed (passConstOf amf z c) := by
  intro i h
  unfold passConstOf at h
  split at h <;> cases h <;> rfl

theorem bitConstOf_wellFormed (amf : Nat) (z : AluDest) (x : XAlu) (k : Bit) (c : Cond) :
    AnswersWellFormed (bitConstOf amf z x k c) := by
  intro i h
  unfold bitConstOf at h
  split at h <;> cases h <;> rfl

theorem notBitConstOf_wellFormed (amf : Nat) (z : AluDest) (x : XAlu) (k : Bit) (c : Cond) :
    AnswersWellFormed (notBitConstOf amf z x k c) := by
  intro i h
  unfold notBitConstOf at h
  split at h <;> cases h <;> rfl

theorem StackOps.instr_wellFormed (o : StackOps) : AnswersWellFormed o.instr := by
  intro i h
  obtain ⟨_ | _, _ | _, _ | _, _ | _ | _⟩ := o <;> cases h <;> rfl

/-- One clause is its own constructor; a term left over has another number of clauses. -/
theorem ModeOps.instr_wellFormed (o : ModeOps) : o.instr.wellFormed = true := by
  unfold ModeOps.instr
  split
  case h_15 =>
    obtain ⟨a, b, c, d, e, f, g⟩ := o
    -- the fourteen clauses are excluded, so that the count is not 1
    simp only [Instr.wellFormed, ModeOps.count, Switch.count]
    grind [cases Switch]
  all_goals rfl

section types
variable (w : Nat)

theorem type1_wellFormed : AnswersWellFormed (type1 w) :=
  have hp := pairOf_zero_inDag1 (field w 2 2) (field w 0 2)
  have hq := pairOf_one_inDag2 (field w 6 2) (field w 4 2)
  .bind fun _ _ => .bind fun _ _ => .ite (.some (by simp [Instr.wellFormed, hp, hq])) <|
    .bind fun _ ho =>
      have ⟨hadmitted, hdest⟩ := Comp.ofCode_admitted ho
      .some (by simp [Instr.wellFormed, hp, hq, hadmitted, hdest rfl])

theorem type2_wellFormed : AnswersWellFormed (type2 w) := .some (pairOf_bit_sameDag _ _ _ _)

theorem type3_wellFormed : AnswersWellFormed (type3 w) :=
  .bind fun _ _ => .ite (.some rfl) (.some rfl)

theorem type4_wellFormed : AnswersWellFormed (type4 w) :=
  have hp := pairOf_bit_sameDag w 20 (field w 2 2) (field w 0 2)
  .bind fun _ _ => .ite (.ite (.some hp) (.some hp)) <| .bind fun _ ho =>
    have hc := Bool.and_eq_true_iff.mpr ⟨(Comp.ofCode_admitted ho).1, hp⟩
    .ite (.some hc) (.some hc)

theorem type5_wellFormed : AnswersWellFormed (type5 w) :=
  have hp := pairOf_one_inDag2 (field w 2 2) (field w 0 2)
  .bind fun _ _ => .ite (.ite (.some hp) (.some hp)) <| .bind fun _ ho =>
    have hc := Bool.and_eq_true_iff.mpr ⟨(Comp.ofCode_admitted ho).1, hp⟩
    .ite (.some hc) (.some hc)

theorem type6_wellFormed : AnswersWellFormed (type6 w) := .bind fun _ _ => .some rfl

theorem type7_wellFormed : AnswersWellFormed (type7 w) := .bind fun _ _ => .guard id

theorem type8_wellFormed : AnswersWellFormed (type8 w) :=
  .bind fun _ ho => .bind fun _ _ => .bind fun _ _ => .some (Comp.ofCode_admitted ho).1

theorem type9_wellFormed : AnswersWellFormed (type9 w) := by
  refine .bind fun c _ => .bind fun z _ => .ite (.ite ?_ ?_) ?_
  · exact .bind fun f hf => .bind fun _ _ => .some (MacFn.instr_wellFormed hf _ c)
  · split
    · exact .some (AluFn.instr_wellFormed z c _)
    · exact .ite (passConstOf_wellFormed _ z c) .none
  · exact .bind fun x _ => .ite (bitConstOf_wellFormed _ z x _ c)
      (.ite (notBitConstOf_wellFormed _ z x _ c) .none)

theorem type10_wellFormed : AnswersWellFormed (type10 w) :=
  .bind fun _ _ => .ite (.some rfl) (.some rfl)

theorem type11_wellFormed : AnswersWellFormed (type11 w) := .bind fun _ _ => .some rfl

theorem type12_wellFormed : AnswersWellFormed (type12 w) :=
  have hp := pairOf_bit_sameDag w 16 (field w 2 2) (field w 0 2)
  .bind fun _ _ => .bind fun _ _ => .ite (.some hp) (.some hp)

theorem type13_wellFormed : AnswersWellFormed (type13 w) :=
  have hp := pairOf_one_inDag2 (field w 2 2) (field w 0 2)
  .bind fun _ _ => .bind fun _ _ => .ite (.some hp) (.some hp)

theorem type14_wellFormed : AnswersWellFormed (type14 w) :=
  .bind fun _ _ => .bind fun _ _ => .bind fun _ _ => .some rfl

theorem type15_wellFormed : AnswersWellFormed (type15 w) := by
  refine .bind fun _ _ => .bind fun _ _ => ?_
  split
  · exact .some rfl
  · exact .some rfl
  · exact .none

theorem type16_wellFormed : AnswersWellFormed (type16 w) :=
  .bind fun c _ => .bind fun f _ => .ite (.some (ShiftFn.instr_wellFormed c f)) .none

theorem type17_wellFormed : AnswersWellFormed (type17 w) :=
  .bind fun _ _ => .bind fun _ _ => .some rfl

theorem type18_wellFormed : AnswersWellFormed (type18 w) :=
  .ite (.some (ModeOps.instr_wellFormed _)) .none

theorem type19_wellFormed : AnswersWellFormed (type19 w) :=
  .bind fun _ _ => .ite (.ite (.some rfl) (.some rfl)) .none

theorem type20_wellFormed : AnswersWellFormed (type20 w) :=
  .bind fun _ _ => .ite (.some rfl) (.some rfl)

theorem type21_wellFormed : AnswersWellFormed (type21 w) := .some (pairOf_bit_sameDag _ _ _ _)

theorem type23_wellFormed : AnswersWellFormed (type23 w) := .bind fun _ _ => .ite (.some rfl) .none

theorem type24_wellFormed : AnswersWellFormed (type24 w) :=
  .bind fun _ _ => .bind fun _ _ => .guard And.right

theorem type26_wellFormed : AnswersWellFormed (type26 w) := StackOps.instr_wellFormed _

theorem type27_wellFormed : AnswersWellFormed (type27 w) := .ite (.some rfl) (.some rfl)

theorem type28_wellFormed : AnswersWellFormed (type28 w) :=
  .bind fun _ _ => .bind fun _ _ => .bind fun _ _ => .bind fun _ _ => .bind fun _ _ => .some rfl

theorem type31_wellFormed : AnswersWellFormed (type31 w) :=
  .ite (.some rfl) (.map fun _ => rfl)

end types

/-- Where the decoder answers an instruction, that has its operands in their classes. -/
def DecodesWellFormed (e : Except Reject Instr) : Prop := ∀ i, e = .ok i → i.wellFormed = true

theorem AnswersWellFormed.orReserved {r : Option Instr} (h : AnswersWellFormed r) (n : Nat) :
    DecodesWellFormed (orReserved n r) := by
  intro i e
  cases r with
  | none => cases e
  | some j => exact h i (congrArg Option.some (Except.ok.inj e))

theorem DecodesWellFormed.ok {i : Instr} (h : i.wellFormed = true) : DecodesWellFormed (.ok i) :=
  fun _ e => Except.ok.inj e ▸ h

theorem DecodesWellFormed.ite {c : Prop} [Decidable c] {r q : Except Reject Instr}
    (hr : DecodesWellFormed r) (hq : DecodesWellFormed q) :
    DecodesWellFormed (if c then r else q) := by
  split
  · exact hr
  · exact hq

/-- In the order of the tests of the decoder (R129). -/
theorem decodeNat_wellFormed (w : Nat) : DecodesWellFormed (decodeNat w) :=
  .ite ((type1_wellFormed w).orReserved 1) <|
  .ite ((type2_wellFormed w).orReserved 2) <|
  .ite ((type3_wellFormed w).orReserved 3) <|
  .ite ((type4_wellFormed w).orReserved 4) <|
  .ite ((type5_wellFormed w).orReserved 5) <|
  .ite ((type6_wellFormed w).orReserved 6) <|
  .ite ((type7_wellFormed w).orReserved 7) <|
  .ite ((type8_wellFormed w).orReserved 8) <|
  .ite ((type9_wellFormed w).orReserved 9) <|
  .ite ((type10_wellFormed w).orReserved 10) <|
  .ite ((type11_wellFormed w).orReserved 11) <|
  .ite ((type12_wellFormed w).orReserved 12) <|
  .ite ((type13_wellFormed w).orReserved 13) <|
  .ite ((type14_wellFormed w).orReserved 14) <|
  .ite ((type15_wellFormed w).orReserved 15) <|
  .ite ((type16_wellFormed w).orReserved 16) <|
  .ite ((type17_wellFormed w).orReserved 17) <|
  .ite ((type18_wellFormed w).orReserved 18) <|
  .ite ((type19_wellFormed w).orReserved 19) <|
  .ite ((type20_wellFormed w).orReserved 20) <|
  .ite ((type21_wellFormed w).orReserved 21) <|
  .ite ((type23_wellFormed w).orReserved 23) <|
  .ite ((type24_wellFormed w).orReserved 24) <|
  .ite (.ok rfl) <|
  .ite ((type26_wellFormed w).orReserved 26) <|
  .ite ((type27_wellFormed w).orReserved 27) <|
  .ite ((type28_wellFormed w).orReserved 28) <|
  .ite (.ok rfl) <|
  .ite ((type31_wellFormed w).orReserved 31) fun _ e => nomatch e

/-- Settles O9: format by format, what each answers has its operands in their classes. -/
theorem decodeWellFormed : Obligations.DecodeWellFormed := by
  unfold Obligations.DecodeWellFormed
  exact fun w => decodeNat_wellFormed w.toNat

end Sys2Proof
end

section
/-! PROOFS of the statements about the instruction a step runs, the words of the spec's programs, the
operands and the conditions (spec/30_encoding.md R110, R115, R121, R124, R125, spec/10_state.md R38,
R39, spec/45_program_flow.md R300). -/

namespace Sys2Proof.Machine

open Sys2Proof.Claims

/-! ### The instruction a step runs (R110, R300) -/

/-- A turn of the core with nothing to deliver, awake, runs what it fetches (R300). -/
theorem coreTurn_of_fetch {i : Instr} {s : State} (hdel : deliverable s = none)
    (hidle : s.idle = false) (h : fetch s = .ok i) : coreTurn s = exec i s := by
  simp only [coreTurn, hdel, hidle, h, Bool.false_eq_true, if_false]

/-- Settles O5: the fetch answers `i` by what the cell at `pc` holds, and taking the turn from the list
changes nothing that the core looks at. -/
theorem stepRunsDecoded : Obligations.StepRunsDecoded := by
  unfold Obligations.StepRunsDecoded
  intro i s u hdel hidle hmap hcell hturn
  have hfetch : fetch s = .ok i := by
    obtain ⟨w, hw, hdec⟩ | ⟨hstmt, hgram⟩ := hcell
    · exact fetch_word hmap hw hdec
    · exact fetch_stmt hmap hstmt hgram
  obtain ⟨henv, rfl⟩ | ⟨rest, henv, rfl⟩ := hturn
  · rw [step, turn, henv]
    exact coreTurn_of_fetch hdel hidle hfetch
  · rw [step, turn, henv]
    exact coreTurn_of_fetch hdel hidle hfetch

/-- Settles O7: the decoder, run on each word. -/
theorem specWordsDecode : Obligations.SpecWordsDecode :=
  ⟨rfl, rfl, rfl, rfl, rfl, rfl, rfl, rfl, rfl, rfl⟩

/-! ### The operands (R39, R115) -/

/-- MR2 on the 16-bit path is sign-extended (R171, R221, R251). -/
theorem rdD_mr2_toInt (s : State) : (rdD .mr2 s).toInt = s.bank.mr2.toInt :=
  BitVec.toInt_signExtend_of_le (by decide)

/-- Settles O10: the register set by SEC_REG, the operands by name. -/
theorem operandValues : Obligations.OperandValues := by
  unfold Obligations.OperandValues
  intro s b
  refine ⟨fun hsec => ?_, fun hsec => ?_, s.bank_setBank b, rfl, rfl, rfl, rfl, rfl, rdD_mr2_toInt s,
    rdD_mr2_toInt s, rdD_mr2_toInt s⟩
  · simp [State.bank, State.setBank, hsec, State.setPrimary]
  · simp [State.bank, State.setBank, hsec, State.setSecondary]

/-! ### The condition table (R124) -/

/-- The model's conditions are those of the table: GE is the equality of AN and AV. -/
theorem condHolds_eq_truth (a : BitVec 8) (c : Cond) : condHolds a c = truth a c := by
  cases c with
  | ge | gt =>
    simp only [condHolds, truth, flagOf, Flag.bit]
    cases a.getLsbD 0 <;> cases a.getLsbD 1 <;> cases a.getLsbD 2 <;> rfl
  | _ => rfl

theorem truth_complement (a : BitVec 8) :
    ∀ x ∈ [(Cond.eq, Cond.ne), (.lt, .ge), (.le, .gt), (.ac, .notAc), (.av, .notAv), (.mv, .notMv),
        (.neg, .pos)], truth a x.2 = !truth a x.1 := by
  intro x hx
  simp only [List.mem_cons, List.not_mem_nil, or_false] at hx
  rw [← condHolds_eq_truth, ← condHolds_eq_truth]
  rcases hx with rfl | rfl | rfl | rfl | rfl | rfl | rfl <;> rfl

/-- The test of `IF [NOT] FLAG_IN`, `n` the NOT: the sample is 1, or 0 (R302). -/
theorem sample_xor_not (x n : Bool) : (x ^^ n) = decide (x = !n) := by
  cases x <;> cases n <;> rfl

/-- A transfer on FLAG_IN away from a loop's end takes its effect where the sample drawn is the one it
asks for, and else goes to the next address (R302, R304). -/
theorem transfer_takeIfFlag {n : Bool} {f : State → Eff State} {s v : State} (hs : Straight s)
    (hf : f (sampleFi s) = .ok v) (hsample : v.fiSample = Config.fiSample s.draws) :
    ∃ t, transfer (takeIfFlag n f s) s = .next t ∧
      t.pc = (if t.fiSample = !n then v.pc else s.pc + 1) := by
  obtain ⟨hlast, hopen⟩ := hs
  have htest := sample_xor_not (Config.fiSample s.draws) n
  by_cases htaken : Config.fiSample s.draws = !n
  · rw [decide_eq_true htaken] at htest
    refine ⟨v, transfer_next.mpr ⟨hopen, takeIfFlag_ok.mpr (.inl ⟨htest, hf⟩)⟩, ?_⟩
    rw [if_pos (hsample.trans htaken)]
  · rw [decide_eq_false htaken] at htest
    refine ⟨(sampleFi s).stepped,
      transfer_next.mpr ⟨hopen, takeIfFlag_ok.mpr (.inr ⟨htest, hlast, rfl⟩)⟩, ?_⟩
    rw [if_neg (show (sampleFi s).stepped.fiSample ≠ !n from htaken)]
    rfl

/-- Settles O11: the table by `condHolds_eq_truth`, JUMP and CALL on FLAG_IN by the sample drawn. -/
theorem conditionTable : Obligations.ConditionTable := by
  unfold Obligations.ConditionTable
  intro s
  refine ⟨fun c hc => ?_, truth_complement s.astat, fun n a hs hdepth => ?_⟩
  · rw [evalCond_pure hc, condHolds_eq_truth]
  · obtain ⟨t, hjump, ht⟩ :=
      transfer_takeIfFlag (n := n) (f := fun s => .ok (s.setPc a)) hs rfl rfl
    obtain ⟨u, hcall, hu⟩ :=
      transfer_takeIfFlag (n := n) hs (callTo_ok.mpr ⟨hs.1, hdepth, rfl⟩) rfl
    exact ⟨t, u, hjump, hcall, ht, hu⟩

/-! ### A false condition (R125, R300) -/

/-! The constants as the model and the statements write them (R121). -/

theorem bitConst_eq_pow2 (k : Bit) : bitConst k = pow2 k := by revert k; decide

theorem notBitConst_eq_notPow2 (k : Bit) : notBitConst k = notPow2 k := by revert k; decide

theorem constValue_eq_constVal (k : Constant) : constValue k = constVal k := by
  cases k with
  | pow b => exact bitConst_eq_pow2 b
  | other v => rfl

section falseCondition
variable {c : Cond} {s s1 : State} (hc : evalCond c s = .ok (false, s1)) (hs : Straight s)
include hc hs

theorem sequential_ifThen_false (f : State → Eff State) :
    sequential (ifThen c f s) = .next s1.stepped := by
  rw [ifThen_false hc]
  exact sequential_straight (straight_evalCond hc hs)

theorem aluConstIf_false {k : Word} (hhas : s.params.hasAluConstants = true)
    (hk : k ∈ s.params.aluConstants) (z : AluDest) (f : State → AluOut) :
    aluConstIf k c z f s = .next s1.stepped := by
  rw [aluConstIf_eq hhas hk]
  exact sequential_ifThen_false hc hs _

theorem aluOptionIf_false (hhas : s.params.hasAluConstants = true) (z : AluDest)
    (f : State → AluOut) : aluOptionIf c z f s = .next s1.stepped := by
  rw [aluOptionIf, hhas, needs_true]
  exact sequential_ifThen_false hc hs _

/-- A control transfer whose condition is false goes to the next address. -/
theorem transfer_takeIf_false (f : State → Eff State) :
    transfer (takeIf c f s) s = .next s1.stepped :=
  have hs1 := straight_evalCond hc hs
  transfer_next.mpr ⟨hs.2, takeIf_ok.mpr ⟨false, s1, hc, hs1.1, rfl⟩⟩

end falseCondition

/-- The forms that every member has (R357). -/
theorem FlagOps.onlyFo_iff {o : FlagOps} :
    FlagOps.onlyFo o = true ↔ o.fl0 = .keep ∧ o.fl1 = .keep ∧ o.fl2 = .keep := by
  simp [FlagOps.onlyFo, and_assoc]

/-- Settles O13: the constructors with a condition by family, each with the lemma about the operation
it shares. -/
theorem falseConditionIsNop : Obligations.FalseConditionIsNop := by
  unfold Obligations.FalseConditionIsNop
  intro i c s s1 hi hex hc hs
  obtain ⟨hhas, hconst, hflag, -, -⟩ := hex
  cases i with
  | addXY | addXC | addXYC | subXY | subXYC | subXC | subYX | subYXC | negXC | andXY | orXY | xorXY
  | passX | passY | negX | negY | notX | notY | absX | incY | decY
  | mulRnd | mulSs | mulSu | mulUs | mulUu | macRnd | macSs | macSu | macUs | macUu | msubRnd | msubSs
  | msubSu | msubUs | msubUu | square | mrZero | mrMr | mrMrRnd
  | ashift | lshift | norm | expHi | expHix | expLo | expadj =>
    cases hi
    exact sequential_ifThen_false hc hs _
  | addXK | addXKC | subXK | subXKC | subKX | subKXC | andXK | orXK | xorXK | passK =>
    cases hi
    exact aluConstIf_false hc hs (hhas rfl) (constValue_eq_constVal _ ▸ hconst _ rfl) _ _
  | addXNK | addXNKC | subXNK | subXNKC | subNKX | subNKXC | andXNK | orXNK | xorXNK | passNK =>
    cases hi
    exact aluConstIf_false hc hs (hhas rfl) (notBitConst_eq_notPow2 _ ▸ hconst _ rfl) _ _
  | pass1 | passM1 =>
    cases hi
    exact aluConstIf_false hc hs (hhas rfl) (hconst _ rfl) _ _
  | tstbit | setbit | clrbit | tglbit | pass0 =>
    cases hi
    exact aluOptionIf_false hc hs (hhas rfl) _ _
  | jumpAddr | jumpInd | callAddr | callInd | rts | rti =>
    cases hi
    exact transfer_takeIf_false hc hs _
  | flagOut o =>
    cases hi
    have hpins : (FlagOps.onlyFo o || s.params.hasFlagPins) = true := by
      rw [Bool.or_eq_true, FlagOps.onlyFo_iff]
      exact hflag o c rfl
    show execFlagOut o c s = .next s1.stepped
    rw [execFlagOut, hpins, needs_true]
    exact sequential_ifThen_false hc hs _
  | _ => cases hi

end Sys2Proof.Machine
end

section
/-! PROOFS of the statements about the multifunction instructions (spec/40_multifunction.md R151 to
R160; R121, U13 for the forms a member lacks). A computation clause is one change of the register set and
one ASTAT, both fixed by the state before the instruction (R151); it is shown once to commute with every
move that writes other registers. -/

namespace Sys2Proof.Machine

open Sys2Proof.Claims

/-! ### The moves, as the model and the statements write them (R88, R281) -/

/-- `rd16` of a data register (R281). -/
theorem value_dreg (s : State) (r : DReg) : value s (.dreg r) = rdD r s := by cases r <;> rfl

/-- `wr` of a data register (R281); the copies of MR1's top bit in MR2 are R291 (a). -/
theorem written_dreg (v : Word) (s : State) (d : DReg) : written v s (.dreg d) = wrD d v s := by
  cases d with
  | mr1 =>
    have hmr2 : (if 32768 ≤ v.toNat then BitVec.ofNat 8 255 else 0) =
        if v.msb then BitVec.allOnes Config.MR2W else 0 := by
      rw [Word.msb_eq, allOnes_MR2W]
      by_cases h : 32768 ≤ v.toNat <;> simp [h]
    simp only [written, wrD, Bank.write, hmr2]
  | _ => rfl

/-- Bits 23..8 of a PM word (R88). -/
theorem pmWord_high (w : PmBits) :
    w.extractLsb' Config.PXW Config.W = BitVec.ofNat 16 (w.toNat / 256) := by
  apply BitVec.eq_of_toNat_eq
  simp [BitVec.extractLsb'_toNat, Nat.shiftRight_eq_div_pow]

/-- Bits 7..0 of a PM word (R88). -/
theorem pmWord_low (w : PmBits) : w.extractLsb' 0 Config.PXW = BitVec.ofNat 8 w.toNat := by
  apply BitVec.eq_of_toNat_eq
  simp [BitVec.extractLsb'_toNat]

/-- What a PM data read leaves (R88). -/
theorem fromPm_eq_takePmWord (d : DReg) (w : PmBits) (s : State) :
    fromPm d w s = takePmWord d w s := by
  rw [fromPm, takePmWord, written_dreg, pmWord_high, pmWord_low]

/-- The word of a PM store (R88). -/
theorem append_px_eq_overPx (s : State) (v : Word) : v ++ s.px = overPx s v := by
  apply BitVec.eq_of_toNat_eq
  have hpx : s.px.toNat < 2 ^ 8 := s.px.isLt
  have hv := Word.toNat_lt v
  rw [BitVec.toNat_append, ← Nat.shiftLeft_add_eq_or_of_lt hpx, Nat.shiftLeft_eq]
  show v.toNat * 2 ^ 8 + s.px.toNat = (v.toNat * 256 + s.px.toNat) % 2 ^ 24
  omega

theorem xDualReg_eq_xReg (d : XDual) : xDualReg d = xReg d := by cases d <;> rfl

theorem yDualReg_eq_yReg (e : YDual) : yDualReg e = yReg e := by cases e <;> rfl

theorem readPm_of_hasPm {s : State} {a : Addr} {w : PmBits} (h : HasPm s a w) :
    readPm a s = .ok w := by
  obtain ⟨hram, c, hc, rfl⟩ := h
  exact readPm_ok.mpr ⟨c, readCell_ok.mpr ⟨hram, hc⟩, rfl⟩

/-! ### What a computation clause writes (R151) -/

/-- What a computation clause writes once its operands are read: a change of the register set, and the
new ASTAT. -/
structure ClauseEffect where
  regs : Bank → Bank
  astat : BitVec 8

/-- The writes of a clause over the state `t`. -/
def ClauseEffect.apply (e : ClauseEffect) (t : State) : State :=
  (t.setBank (e.regs t.bank)).setAstat e.astat

/-- What an ALU or MAC clause that reads `s` writes (R175, R223). -/
def compEffect (o : Comp) (s : State) : ClauseEffect :=
  match o with
  | .alu f .ar => ⟨fun b => { b with ar := arValue s (evalAlu f s) }, (evalAlu f s).astat⟩
  | .alu f .af => ⟨fun b => { b with af := (evalAlu f s).r }, (evalAlu f s).astat⟩
  | .mac f .mr => ⟨fun b => b.withMr (evalMac f s), macAstat s (evalMac f s)⟩
  | .mac f .mf =>
    ⟨fun b => { b with mf := (evalMac f s).extractLsb' Config.W Config.W }, macAstat s (evalMac f s)⟩

/-- What a Shifter clause that reads `s` writes (R250, R256, R257). -/
def shiftEffect (f : ShiftFn) (s : State) : ClauseEffect :=
  match f with
  | .shift n o h x =>
    let r := shiftBySe n h (xShift x s) s
    ⟨fun b => b.withSr (if o then b.sr ||| r else r), s.astat⟩
  | .exp m x =>
    let r := expFn (xShift x s) m s.bank.se (s.flag .ss) (s.flag .av)
    ⟨fun b => { b with se := r.1 }, withFlag s.astat .ss r.2⟩
  | .expadj x => ⟨fun b => { b with sb := expadjFn (xShift x s) s.bank.sb }, s.astat⟩

/-- On every state with the status words of `s`, `w` makes the writes `e`. -/
def HasEffect (s : State) (w : State → State) (e : ClauseEffect) : Prop :=
  ∀ t : State, t.astat = s.astat → t.mstat = s.mstat → w t = e.apply t

theorem evalComp_hasEffect (o : Comp) (s : State) : HasEffect s (evalComp o s) (compEffect o s) := by
  intro t hastat hmstat
  match o with
  | .alu f .ar =>
    have har : arValue t (evalAlu f s) = arValue s (evalAlu f s) := by
      rw [arValue, arValue, State.mode_congr hmstat]
    simp only [evalComp, writeAlu, har, compEffect, ClauseEffect.apply]
  | .alu f .af => rfl
  | .mac f .mr | .mac f .mf =>
    simp only [evalComp, writeMac, macAstat, hastat, compEffect, ClauseEffect.apply]

theorem evalShift_hasEffect (f : ShiftFn) (s : State) :
    HasEffect s (evalShift f s) (shiftEffect f s) := by
  intro t hastat _
  have hkeep (b : Bank) : (t.setBank b).setAstat s.astat = t.setBank b := by
    rw [← hastat, ← State.setBank_setAstat]
    rfl
  cases f with
  | shift | expadj => simp only [evalShift, writeSr, shiftEffect, ClauseEffect.apply, hkeep]
  | exp => simp only [evalShift, shiftEffect, ClauseEffect.apply, hastat]

/-- The clause and a write of `d` do not touch each other. -/
def ClauseEffect.Spares (e : ClauseEffect) (d : DReg) : Prop :=
  ∀ b v, e.regs (b.write v d) = (e.regs b).write v d

/-- The registers that `Comp.writes` leaves out are those an ALU or MAC clause spares (R160). -/
theorem compEffect_spares {o : Comp} {d : DReg} (h : Comp.writes o d = false) (s : State) :
    (compEffect o s).Spares d := by
  intro b v
  match o with
  | .alu _ .ar =>
    cases d with
    | ar => cases h
    | _ => rfl
  | .mac _ .mr =>
    cases d with
    | mr0 | mr1 | mr2 => cases h
    | _ => rfl
  | .alu _ .af | .mac _ .mf => cases d <;> rfl

/-- The registers that `ShiftFn.writes` leaves out are those a Shifter clause spares (R160). -/
theorem shiftEffect_spares {f : ShiftFn} {d : DReg} (h : ShiftFn.writes f d = false) (s : State) :
    (shiftEffect f s).Spares d := by
  intro b v
  match f with
  | .shift _ _ _ _ =>
    cases d with
    | sr0 | sr1 => cases h
    | _ => rfl
  | .exp _ _ =>
    cases d with
    | se => cases h
    | _ => rfl
  | .expadj _ => cases d <;> rfl

/-! ### A clause over what a move leaves -/

section commute
variable (e : ClauseEffect) (s : State)

theorem ClauseEffect.apply_stepped : (e.apply s).stepped = e.apply s.stepped := by
  simp only [apply, State.stepped, State.setBank_setPc, State.setAstat_pc, State.setBank_pc]
  rfl

theorem ClauseEffect.apply_setIdx (v) : e.apply (s.setIdx v) = (e.apply s).setIdx v := by
  rw [apply, State.setBank_setIdx]
  rfl

theorem ClauseEffect.apply_setPx (v) : e.apply (s.setPx v) = (e.apply s).setPx v := by
  rw [apply, State.setBank_setPx]
  rfl

theorem ClauseEffect.apply_setDm (v) : e.apply (s.setDm v) = (e.apply s).setDm v := by
  rw [apply, State.setBank_setDm]
  rfl

theorem ClauseEffect.apply_setPm (v) : e.apply (s.setPm v) = (e.apply s).setPm v := by
  rw [apply, State.setBank_setPm]
  rfl

theorem ClauseEffect.apply_storedDm (a : Addr) (v : Word) :
    e.apply (storedDm s a v) = storedDm (e.apply s) a v := by
  have hdm : (e.apply s).dm = s.dm := State.setBank_dm ..
  rw [storedDm, apply_setDm, storedDm, hdm]

theorem ClauseEffect.apply_storedPm (a : Addr) (w : PmBits) :
    e.apply (storedPm s a w) = storedPm (e.apply s) a w := by
  have hpm : (e.apply s).pm = s.pm := State.setBank_pm ..
  rw [storedPm, apply_setPm, storedPm, hpm]

variable {e}

theorem ClauseEffect.apply_wrD {d : DReg} (h : e.Spares d) (v : Word) :
    e.apply (wrD d v s) = wrD d v (e.apply s) := by
  simp only [apply, wrD, State.bank_setBank, State.bank_setAstat, State.setBank_setBank,
    State.setBank_setAstat, h s.bank v]

theorem ClauseEffect.apply_takePmWord {d : DReg} (h : e.Spares d) (w : PmBits) :
    e.apply (takePmWord d w s) = takePmWord d w (e.apply s) := by
  rw [takePmWord, apply_wrD _ h, apply_setPx, takePmWord]

end commute

theorem wrD_stepped (d : DReg) (v : Word) (s : State) :
    (wrD d v s).stepped = wrD d v s.stepped := by
  simp only [wrD, State.stepped, State.setBank_pc, State.setBank_setPc, State.bank_setPc]

theorem takePmWord_stepped (d : DReg) (w : PmBits) (s : State) :
    (takePmWord d w s).stepped = takePmWord d w s.stepped := by
  rw [takePmWord, wrD_stepped]
  rfl

/-! ### A clause alone (R150) -/

/-- The instruction of a MAC expression runs that expression (R150). -/
theorem exec_macInstr (f : MacFn) (z : MacDest) (c : Cond) (s : State) :
    exec (f.instr z c) s = macIf c z (evalMac f) s := by
  match f with
  | .prod n m x y => cases n <;> cases m <;> rfl
  | .square .. | .zero | .mr | .mrRnd => rfl

/-- The instruction of a Shifter computation runs that computation (R150). -/
theorem exec_shiftInstr (f : ShiftFn) (c : Cond) (s : State) :
    exec (f.instr c) s = shiftIf c (evalShift f) s := by
  match f with
  | .shift n o h x => cases n <;> rfl
  | .exp m x => cases m <;> rfl
  | .expadj x => rfl

/-- `u` has the status words, `pc` and the stacks of `s`, as every data move leaves them. -/
structure SameControl (s u : State) : Prop where
  pc : u.pc = s.pc
  stk : u.stk = s.stk
  astat : u.astat = s.astat
  mstat : u.mstat = s.mstat

theorem SameControl.wrD {s u : State} (h : SameControl s u) (d : DReg) (v : Word) :
    SameControl s (wrD d v u) :=
  ⟨(wrD_pc d v u).trans h.pc, (wrD_stk d v u).trans h.stk, (wrD_astat d v u).trans h.astat,
    (wrD_mstat d v u).trans h.mstat⟩

theorem SameControl.takePmWord {s u : State} (h : SameControl s u) (d : DReg) (w : PmBits) :
    SameControl s (takePmWord d w u) :=
  have hpx : SameControl s (u.setPx (w.extractLsb' 0 Config.PXW)) := ⟨h.pc, h.stk, h.astat, h.mstat⟩
  hpx.wrD d _

theorem sameControl_postModify (p : Pair) (s : State) : SameControl s (postModify p s) :=
  ⟨rfl, rfl, rfl, rfl⟩

section clause
variable {s : State} (hs : Straight s)
include hs

theorem exec_compInstr (o : Comp) :
    exec (compInstr o) s = .next ((compEffect o s).apply s.stepped) := by
  rw [← ClauseEffect.apply_stepped, ← evalComp_hasEffect o s s rfl rfl]
  cases o with
  | alu f z => exact (exec_aluInstr f z _ s).trans (aluIf_taken (evalCond_always s) hs z _)
  | mac f z => exact (exec_macInstr f z _ s).trans (macIf_taken (evalCond_always s) hs z _)

theorem exec_shiftInstr_always (f : ShiftFn) :
    exec (f.instr .always) s = .next ((shiftEffect f s).apply s.stepped) := by
  rw [← ClauseEffect.apply_stepped, ← evalShift_hasEffect f s s rfl rfl, exec_shiftInstr]
  exact shiftIf_taken (evalCond_always s) hs f

/-! ### A clause beside each move (R152 to R158) -/

variable {w : State → State} {e : ClauseEffect} (hw : HasEffect s w e)
include hw

/-- The clause acts over what the moves leave: they keep the status words, `pc` and the stacks. -/
theorem sequential_withClause {m : State → Eff State} {u : State} (hm : m s = .ok u)
    (hu : SameControl s u) : sequential (withClause w m s) = .next (e.apply u.stepped) := by
  obtain ⟨hpc, hstk, hastat, hmstat⟩ := hu
  rw [withClause_ok.mpr ⟨u, hm, rfl⟩, hw u hastat hmstat, ← ClauseEffect.apply_stepped]
  refine sequential_ok hs ?_ ?_
  · simp [ClauseEffect.apply, hpc]
  · simp [ClauseEffect.apply, hstk]

section loads
variable {d : DReg} {p : Pair} (hd : e.Spares d)
include hd

/-- R158: the source register is read before the clause writes. -/
theorem clause_move (r : DReg) :
    sequential (withClause w (fun s => .ok (wrD d (rdD r s) s)) s) =
      .next (written (value s (.dreg r)) (e.apply s.stepped) (.dreg d)) := by
  have hmove : (fun t => (.ok (wrD d (rdD r t) t) : Eff State)) s = .ok (wrD d (rdD r s) s) := rfl
  rw [sequential_withClause hs hw hmove (SameControl.wrD ⟨rfl, rfl, rfl, rfl⟩ d _),
    wrD_stepped, ClauseEffect.apply_wrD _ hd, written_dreg, value_dreg]

/-- R154: the word at the old index, over the clause. -/
theorem clause_loadDm {v : Word} (hv : HasDm s (dmEa p s) v) :
    sequential (withClause w (loadDm d p) s) =
      .next (written v ((e.apply s.stepped).setIdx (postModify p s).idx) (.dreg d)) := by
  have hload : loadDm d p s = .ok (wrD d v (postModify p s)) :=
    loadDm_ok.mpr ⟨v, readDm_ok.mpr hv, rfl⟩
  rw [sequential_withClause hs hw hload ((sameControl_postModify p s).wrD d v),
    wrD_stepped, ClauseEffect.apply_wrD _ hd, written_dreg, ← ClauseEffect.apply_setIdx]
  rfl

/-- R155: the word at the old index, over the clause, and PX. -/
theorem clause_loadPm {x : PmBits} (hx : HasPm s (s.idx.get p.i) x) :
    sequential (withClause w (loadPm d p) s) =
      .next (fromPm d x ((e.apply s.stepped).setIdx (postModify p s).idx)) := by
  have hload : loadPm d p s = .ok (takePmWord d x (postModify p s)) :=
    loadPm_ok.mpr ⟨x, readPm_of_hasPm hx, rfl⟩
  rw [sequential_withClause hs hw hload ((sameControl_postModify p s).takePmWord d x),
    takePmWord_stepped, ClauseEffect.apply_takePmWord _ hd, fromPm_eq_takePmWord,
    ← ClauseEffect.apply_setIdx]
  rfl

end loads

/-- R156: the old index addresses the store, of the register's value before the clause. -/
theorem clause_storeDm {p : Pair} (hram : RamDm s (dmEa p s)) (v : Word) :
    sequential (withClause w (storeDm p v) s) =
      .next ((storedDm (e.apply s.stepped) (dmEa p s) v).setIdx (postModify p s).idx) := by
  have hstore : storeDm p v s = .ok (postModify p (storedDm s (dmEa p s) v)) :=
    storeDm_ok.mpr ⟨_, writeDm_ok.mpr ⟨hram, rfl⟩, rfl⟩
  rw [sequential_withClause hs hw hstore ⟨rfl, rfl, rfl, rfl⟩, ← ClauseEffect.apply_storedDm,
    ← ClauseEffect.apply_setIdx]
  rfl

/-- R157: as R156, with PX below the register's value. -/
theorem clause_storePm {p : Pair} (hram : RamPm s (s.idx.get p.i)) (v : Word) :
    sequential (withClause w (storePm p v) s) =
      .next ((storedPm (e.apply s.stepped) (s.idx.get p.i) (overPx s v)).setIdx
        (postModify p s).idx) := by
  have hstore : storePm p v s =
      .ok (postModify p (storedPm s (s.idx.get p.i) (overPx s v))) := by
    rw [← append_px_eq_overPx]
    exact storePm_ok.mpr ⟨_, writeCell_ok.mpr ⟨hram, rfl⟩, rfl⟩
  rw [sequential_withClause hs hw hstore ⟨rfl, rfl, rfl, rfl⟩, ← ClauseEffect.apply_storedPm,
    ← ClauseEffect.apply_setIdx]
  rfl

end clause

/-! ### The two reads (R152, R153) -/

/-- What the two reads write over `t`: the words `v` and `w`, to the registers of `d` and `y`. -/
def readsOver (d : XDual) (v : Word) (y : YDual) (w : PmBits) (t : State) : State :=
  takePmWord (yDualReg y) w (wrD (xDualReg d) v t)

theorem readsOver_stepped (d : XDual) (v : Word) (y : YDual) (w : PmBits) (t : State) :
    (readsOver d v y w t).stepped = readsOver d v y w t.stepped := by
  rw [readsOver, takePmWord_stepped, wrD_stepped, readsOver]

theorem SameControl.readsOver {s u : State} (h : SameControl s u) (d : XDual) (v : Word) (y : YDual)
    (w : PmBits) : SameControl s (readsOver d v y w u) := (h.wrD _ v).takePmWord _ w

/-- An ALU or MAC clause writes none of the registers that a DM clause of two reads may name. -/
theorem compEffect_spares_xDual (o : Comp) (d : XDual) (s : State) :
    (compEffect o s).Spares (xDualReg d) := by
  refine compEffect_spares ?_ s
  match o with
  | .alu _ .ar | .mac _ .mr => cases d <;> rfl
  | .alu _ .af | .mac _ .mf => rfl

/-- Nor of those that its PM clause may name. -/
theorem compEffect_spares_yDual (o : Comp) (y : YDual) (s : State) :
    (compEffect o s).Spares (yDualReg y) := by
  refine compEffect_spares ?_ s
  match o with
  | .alu _ .ar | .mac _ .mr => cases y <;> rfl
  | .alu _ .af | .mac _ .mf => rfl

theorem compEffect_readsOver (o : Comp) (s : State) (d : XDual) (v : Word) (y : YDual)
    (w : PmBits) (t : State) :
    (compEffect o s).apply (readsOver d v y w t) = readsOver d v y w ((compEffect o s).apply t) := by
  rw [readsOver, ClauseEffect.apply_takePmWord _ (compEffect_spares_yDual o y s),
    ClauseEffect.apply_wrD _ (compEffect_spares_xDual o d s), readsOver]

/-- The two reads load the words at the old indices (R152). -/
theorem twoReads_of_has {d : XDual} {p : Pair} {y : YDual} {q : Pair} {v : Word} {w : PmBits}
    {s : State} (hv : HasDm s (dmEa p s) v) (hx : HasPm s (s.idx.get q.i) w) :
    twoReads d p y q s = .ok (readsOver d v y w (postModify q (postModify p s))) :=
  twoReads_ok.mpr ⟨w, v, readPm_of_hasPm hx, readDm_ok.mpr hv, rfl⟩

/-- Settles O50: the two reads write the X and the Y registers, which no ALU or MAC clause writes. -/
theorem twoReadForms : Obligations.TwoReadForms := by
  unfold Obligations.TwoReadForms
  intro o d y p q v w s hs _ hv hx moves
  have hmoves (t : State) :
      moves t = readsOver d v y w (t.setIdx (postModify q (postModify p s)).idx) := by
    simp only [moves, fromPm_eq_takePmWord, written_dreg, readsOver, xDualReg_eq_xReg,
      yDualReg_eq_yReg]
  have hreads := twoReads_of_has (d := d) (y := y) hv hx
  have hindices : SameControl s (postModify q (postModify p s)) := ⟨rfl, rfl, rfl, rfl⟩
  have hcontrol := hindices.readsOver d v y w
  have hstep : (postModify q (postModify p s)).stepped =
      s.stepped.setIdx (postModify q (postModify p s)).idx := rfl
  refine ⟨?_, _, exec_compInstr hs o, ?_⟩
  · calc exec (.dualRead d p y q) s
      _ = sequential (twoReads d p y q s) := rfl
      _ = .next (readsOver d v y w (postModify q (postModify p s))).stepped := by
        rw [hreads]
        exact sequential_ok hs hcontrol.pc (congrArg Stacks.loop hcontrol.stk)
      _ = .next (moves s.stepped) := by
        rw [readsOver_stepped, hmoves, hstep]
  · calc exec (.compDmPm o d p y q) s
      _ = sequential (withClause (evalComp o s) (twoReads d p y q) s) := rfl
      _ = .next ((compEffect o s).apply
            (readsOver d v y w (postModify q (postModify p s))).stepped) :=
        sequential_withClause hs (evalComp_hasEffect o s) hreads hcontrol
      _ = .next (moves ((compEffect o s).apply s.stepped)) := by
        rw [readsOver_stepped, compEffect_readsOver, hmoves, hstep, ClauseEffect.apply_setIdx]

/-! ### One move (R154 to R158) -/

/-- Settles O51: each clause by what it writes, beside each of the three moves. -/
theorem computeWithLoad : Obligations.ComputeWithLoad := by
  unfold Obligations.ComputeWithLoad
  intro o f d r p v w s hs
  refine ⟨fun hfree => ?_, fun hfree => ?_⟩
  · have hw := evalComp_hasEffect o s
    have hd := compEffect_spares hfree s
    exact ⟨_, exec_compInstr hs o, unlessClash_next.mpr ⟨hfree, clause_move hs hw hd r⟩,
      fun hv => unlessClash_next.mpr ⟨hfree, clause_loadDm hs hw hd hv⟩,
      fun hx => unlessClash_next.mpr ⟨hfree, clause_loadPm hs hw hd hx⟩⟩
  · have hw := evalShift_hasEffect f s
    have hd := shiftEffect_spares hfree s
    exact ⟨_, exec_shiftInstr_always hs f, unlessClash_next.mpr ⟨hfree, clause_move hs hw hd r⟩,
      fun hv => unlessClash_next.mpr ⟨hfree, clause_loadDm hs hw hd hv⟩,
      fun hx => unlessClash_next.mpr ⟨hfree, clause_loadPm hs hw hd hx⟩⟩

/-- Settles O52: each clause by what it writes, beside each of the two stores. -/
theorem computeWithWrite : Obligations.ComputeWithWrite := by
  unfold Obligations.ComputeWithWrite
  intro o f r p s hs
  rw [value_dreg]
  have hcomp := evalComp_hasEffect o s
  have hshift := evalShift_hasEffect f s
  exact ⟨⟨_, exec_compInstr hs o, fun hram => clause_storeDm hs hcomp hram _,
      fun hram => clause_storePm hs hcomp hram _⟩,
    ⟨_, exec_shiftInstr_always hs f, fun hram => clause_storeDm hs hshift hram _,
      fun hram => clause_storePm hs hshift hram _⟩⟩

/-! ### The forms that are refused (R160, R121, U13) -/

/-- An ALU or MAC clause beside a load or a move into a register it writes is refused by the register's
name (R160). -/
theorem exec_comp_clash {o : Comp} {d : DReg} (h : Machine.Comp.writes o d = true) (p : Pair)
    (r : DReg) (s : State) :
    exec (.compDm o d p) s = .refused (.twoWrites d) ∧
      exec (.compPm o d p) s = .refused (.twoWrites d) ∧
      exec (.compMove o d r) s = .refused (.twoWrites d) := ⟨if_pos h, if_pos h, if_pos h⟩

/-- So is a Shifter clause (R160). -/
theorem exec_shift_clash {f : ShiftFn} {d : DReg} (h : Machine.ShiftFn.writes f d = true) (p : Pair)
    (r : DReg) (s : State) :
    exec (.shiftDm f d p) s = .refused (.twoWrites d) ∧
      exec (.shiftPm f d p) s = .refused (.twoWrites d) ∧
      exec (.shiftMove f d r) s = .refused (.twoWrites d) := ⟨if_pos h, if_pos h, if_pos h⟩

/-- A form that the member lacks is refused (U13). -/
theorem needs_absent {b : Bool} (h : b = false) (r : Result) : needs b r = .refused .formAbsent := by
  rw [h]
  rfl

/-- A form whose constant is not in `alu_constants` is no instruction (R121). -/
theorem exec_constant_outside {i : Instr} {s : State} {v : Word}
    (hhas : s.params.hasAluConstants = true) (hi : constantOf i = some v)
    (hv : v ∉ s.params.aluConstants) : exec i s = .refused .notAnInstruction := by
  cases i with
  | addXK | addXKC | subXK | subXKC | subKX | subKXC | andXK | orXK | xorXK | passK =>
    cases hi
    exact aluConstIf_outside hhas (constValue_eq_constVal _ ▸ hv) _ _ _
  | addXNK | addXNKC | subXNK | subXNKC | subNKX | subNKXC | andXNK | orXNK | xorXNK | passNK =>
    cases hi
    exact aluConstIf_outside hhas (notBitConst_eq_notPow2 _ ▸ hv) _ _ _
  | pass1 | passM1 =>
    cases hi
    exact aluConstIf_outside hhas hv _ _ _
  | _ => cases hi

/-- Without `has_alu_constants` every form that needs it is refused as absent (U13). -/
theorem exec_constForm_absent {i : Instr} {s : State} (hlacks : s.params.hasAluConstants = false)
    (hi : constForm i = true) : exec i s = .refused .formAbsent := by
  cases i with
  | addXK | addXKC | subXK | subXKC | subKX | subKXC | andXK | orXK | xorXK | passK
  | addXNK | addXNKC | subXNK | subXNKC | subNKX | subNKXC | andXNK | orXNK | xorXNK | passNK
  | pass1 | passM1 | tstbit | setbit | clrbit | tglbit | pass0 | noneAlu =>
    exact needs_absent hlacks _
  | _ => cases hi

/-- Without `has_flag_pins` a statement that names a pin other than FO is refused as absent (U13). -/
theorem exec_flagOut_absent {q : FlagOps} {s : State} (hlacks : s.params.hasFlagPins = false)
    (hq : q.fl0 ≠ .keep ∨ q.fl1 ≠ .keep ∨ q.fl2 ≠ .keep) (c : Cond) :
    exec (.flagOut q c) s = .refused .formAbsent := by
  refine needs_absent ?_ _
  rw [hlacks, Bool.or_false, ← Bool.not_eq_true, FlagOps.onlyFo_iff]
  tauto

/-- Settles O53: the clashes by the registers that each clause writes, the rest by the parameter that
the form needs. -/
theorem refusedForms : Obligations.RefusedForms := by
  unfold Obligations.RefusedForms
  intro f g n o h m x r p i q c div s
  obtain ⟨harDm, harPm, harMove⟩ :=
    exec_comp_clash (o := .alu f .ar) (d := .ar) rfl p r s
  obtain ⟨hseDm, hsePm, hseMove⟩ :=
    exec_shift_clash (f := .exp m x) (d := .se) rfl p r s
  have hmr : ∀ d ∈ [DReg.mr0, .mr1, .mr2], Machine.Comp.writes (.mac g .mr) d = true :=
    List.all_eq_true.mp rfl
  have hsr : ∀ d ∈ [DReg.sr0, .sr1], Machine.ShiftFn.writes (.shift n o h x) d = true :=
    List.all_eq_true.mp rfl
  exact ⟨harDm, harPm, harMove, fun d hd => exec_comp_clash (hmr d hd) p r s,
    fun d hd => exec_shift_clash (hsr d hd) p r s, hseMove, hseDm, hsePm,
    fun hhas v hi hv => exec_constant_outside hhas hi hv, exec_constForm_absent,
    fun hlacks hq => exec_flagOut_absent hlacks hq c, fun hlacks => needs_absent hlacks _,
    fun hlacks => ⟨needs_absent hlacks _, needs_absent hlacks _⟩⟩

end Sys2Proof.Machine
end

section
/-! PROOFS of the statements about the ALU (spec/41_alu.md). The adder of the model is bit vectors and
`p - q` is `p + ~q + 1` (R172); the statements are about integers. One operation's outcome is told once in
their terms, for a sum, a difference, a logic operation and ABS; every form cites it. -/

namespace Sys2Proof.Machine

open Sys2Proof.Claims

/-! ### ASTAT by its flags (R26) -/

/-- Two status words with the same flags are equal. -/
theorem astat_ext {a b : BitVec 8} (h : ∀ f, flagOf a f = flagOf b f) : a = b := by
  refine BitVec.eq_of_getLsbD_eq fun i hi => ?_
  match i, hi with
  | 0, _ => exact h .az
  | 1, _ => exact h .an
  | 2, _ => exact h .av
  | 3, _ => exact h .ac
  | 4, _ => exact h .asg
  | 5, _ => exact h .aq
  | 6, _ => exact h .mv
  | 7, _ => exact h .ss

/-- The flags after an ALU operation, one by one. -/
theorem flagOf_aluFlags (a : BitVec 8) (z n v c : Bool) (f : Flag) :
    flagOf (aluFlags a z n v c) f =
      match f with
      | .az => z
      | .an => n
      | .av => v
      | .ac => c
      | _ => flagOf a f := by
  cases f <;>
    simp only [flagOf, aluFlags, Flag.bit, BitVec.getLsbD_append, BitVec.getLsbD_extractLsb',
      BitVec.getLsbD_ofBool] <;> rfl

/-- The four flags that every ALU operation writes, as the model and the statements write them. -/
theorem withFlag_eq_aluFlags (a : BitVec 8) (z n v c : Bool) :
    withFlag (withFlag (withFlag (withFlag a .az z) .an n) .av v) .ac c = aluFlags a z n v c := by
  refine astat_ext fun f => ?_
  rw [flagOf_aluFlags]
  cases f <;> simp [flagOf_withFlag]

theorem withFlag_asg (a : BitVec 8) (b : Bool) :
    withFlag a .asg b = a.extractLsb' 5 3 ++ BitVec.ofBool b ++ a.extractLsb' 0 4 := by
  refine astat_ext fun f => ?_
  rw [flagOf_withFlag]
  cases f <;>
    simp only [flagOf, Flag.bit, BitVec.getLsbD_append, BitVec.getLsbD_extractLsb',
      BitVec.getLsbD_ofBool] <;> rfl

theorem withFlag_aq (a : BitVec 8) (b : Bool) :
    withFlag a .aq b = a.extractLsb' 6 2 ++ BitVec.ofBool b ++ a.extractLsb' 0 5 := by
  refine astat_ext fun f => ?_
  rw [flagOf_withFlag]
  cases f <;>
    simp only [flagOf, Flag.bit, BitVec.getLsbD_append, BitVec.getLsbD_extractLsb',
      BitVec.getLsbD_ofBool] <;> rfl

/-! ### What an operation writes (R172 to R175) -/

/-- AV is set by this operation's overflow, and under AV_LATCH stays set (R174). -/
theorem avNext_eq (s : State) (v : Bool) : avNext s v = (v || (s.mode .avLatch && s.flag .av)) := by
  unfold avNext
  cases s.mode .avLatch <;> simp [Bool.or_comm]

/-- The outcome of an ALU operation with result `r`, overflow `v` and carry `c`. -/
def aluOut (s : State) (r : Word) (v c : Bool) : AluOut where
  r := r
  v := v
  c := c
  astat := aluFlags s.astat (r == 0) (decide (32768 ≤ r.toNat))
    (v || (s.mode .avLatch && s.flag .av)) c

/-- The outcome, written, is what the statements call the result (R175). -/
theorem writeAlu_aluOut (z : AluDest) (s : State) (r : Word) (v c : Bool) :
    (writeAlu z (aluOut s r v c) s).stepped = aluResult z s r v c := by
  cases z <;> rfl

/-- The flags of every ALU operation but ABS: AN is the sign of the result. -/
theorem aluOut_of_flags (s : State) (r : Word) (v c : Bool) :
    { r := r, v := v, c := c,
      astat := withFlag (withFlag (withFlag (withFlag s.astat .az (r == 0)) .an r.msb)
        .av (avNext s v)) .ac c } = aluOut s r v c := by
  rw [withFlag_eq_aluFlags, avNext_eq, Word.msb_eq, aluOut]

theorem logic_eq (s : State) (r : Word) : logic s r = aluOut s r false false :=
  aluOut_of_flags s r false false

/-! ### The adder in integers (R172) -/

theorem fits16_iff {n : Int} : fits16 n = true ↔ -32768 ≤ n ∧ n ≤ 32767 := by simp [fits16]

theorem aluSum_setWidth (a b : Word) (cin : Bool) :
    (aluSum a b cin).setWidth Config.W = BitVec.ofNat 16 (a.toNat + b.toNat + cin.toNat) := by
  refine BitVec.eq_of_toNat_eq ?_
  rw [BitVec.toNat_setWidth, aluSum_toNat, BitVec.toNat_ofNat]

/-- The carry out is the sum's bit 16. -/
theorem aluSum_msb (a b : Word) (cin : Bool) :
    (aluSum a b cin).msb = decide (65536 ≤ a.toNat + b.toNat + cin.toNat) := by
  rw [BitVec.msb_eq_decide, aluSum_toNat]
  rfl

/-- Both operands of one sign and the sum of the other: 16 bits do not hold the signed sum. -/
theorem aluOverflow_sum (a b : Word) (cin : Bool) :
    aluOverflow a b (BitVec.ofNat 16 (a.toNat + b.toNat + cin.toNat)) =
      !fits16 (a.toInt + b.toInt + cin.toNat) := by
  have ha := Word.toNat_lt a
  have hb := Word.toNat_lt b
  have hcin := Bool.toNat_le cin
  rw [Bool.eq_iff_iff, Bool.not_eq_true', ← Bool.not_eq_true, fits16_iff, aluOverflow,
    Word.msb_eq, Word.msb_eq, Word.msb_eq, Word.toInt_eq, Word.toInt_eq, BitVec.toNat_ofNat,
    two_pow_W]
  simp only [Bool.and_eq_true, beq_iff_eq, bne_iff_ne, decide_eq_decide, ne_eq]
  split <;> split <;> omega

theorem arith_eq (s : State) (a b : Word) (cin : Bool) :
    arith s a b cin = aluOut s (BitVec.ofNat 16 (a.toNat + b.toNat + cin.toNat))
      (!fits16 (a.toInt + b.toInt + cin.toNat))
      (decide (65536 ≤ a.toNat + b.toNat + cin.toNat)) := by
  simp only [arith, aluOut_of_flags, aluSum_setWidth, aluOverflow_sum, aluSum_msb]

/-! A difference is the sum with the complement, and its carry says that nothing was borrowed. -/

theorem Word.toNat_not (q : Word) : (~~~ q).toNat = 65535 - q.toNat := BitVec.toNat_not

theorem Word.toInt_not (q : Word) : (~~~ q).toInt = -1 - q.toInt := by
  have hq := Word.toNat_lt q
  rw [Word.toInt_eq, Word.toInt_eq, Word.toNat_not]
  split <;> split <;> omega

theorem arith_not_eq (s : State) (p q : Word) (cin : Bool) :
    arith s p (~~~ q) cin = aluOut s (BitVec.ofInt 16 (p.toInt - q.toInt - (!cin).toNat))
      (!fits16 (p.toInt - q.toInt - (!cin).toNat)) (decide (q.toNat + (!cin).toNat ≤ p.toNat)) := by
  have hq := Word.toNat_lt q
  have hcin : (!cin).toNat = 1 - cin.toNat := by cases cin <;> rfl
  have hle := Bool.toNat_le cin
  have hresult : BitVec.ofNat 16 (p.toNat + (~~~ q).toNat + cin.toNat) =
      BitVec.ofInt 16 (p.toInt - q.toInt - (!cin).toNat) := by
    refine BitVec.eq_of_toNat_eq ?_
    rw [BitVec.toNat_ofNat, BitVec.toNat_ofInt, Word.toNat_not, Word.toInt_eq, Word.toInt_eq, hcin]
    split <;> split <;> omega
  have hsigned : p.toInt + (~~~ q).toInt + cin.toNat = p.toInt - q.toInt - (!cin).toNat := by
    rw [Word.toInt_not, hcin]
    omega
  have hcarry : 65536 ≤ p.toNat + (~~~ q).toNat + cin.toNat ↔ q.toNat + (!cin).toNat ≤ p.toNat := by
    rw [Word.toNat_not, hcin]
    omega
  rw [arith_eq, hresult, hsigned, decide_eq_decide.mpr hcarry]

/-- DECREMENT adds -1 without a carry, which is to subtract 1 (R191). -/
theorem arith_minus_one (s : State) (a : Word) :
    arith s a (BitVec.allOnes _) false = arith s a (~~~ 1) true := by
  have hsum : aluSum a (BitVec.allOnes _) false = aluSum a (~~~ 1) true := by
    refine BitVec.eq_of_toNat_eq ?_
    rw [aluSum_toNat, aluSum_toNat]
    rfl
  simp only [arith, hsum]
  rfl

/-! ### The forms whose condition holds (R170) -/

/-- The operation of the form is a sum. -/
theorem aluIf_sum {c : Cond} {s s1 : State} (hw : When c s s1) {z : AluDest} {f : State → AluOut}
    {a b : Word} {cin : Bool} (hf : f s1 = arith s1 a b cin) :
    aluIf c z f s = .next (sumResult z s1 a b cin) := by
  rw [aluIf_taken hw.1 hw.2, hf, arith_eq, writeAlu_aluOut, sumResult]

/-- The operation of the form is a difference, with a borrow where the carry into the adder is 0. -/
theorem aluIf_diff {c : Cond} {s s1 : State} (hw : When c s s1) {z : AluDest} {f : State → AluOut}
    {p q : Word} {cin : Bool} (hf : f s1 = arith s1 p (~~~ q) cin) :
    aluIf c z f s = .next (diffResult z s1 p q (!cin)) := by
  rw [aluIf_taken hw.1 hw.2, hf, arith_not_eq, writeAlu_aluOut, diffResult]

/-- The operation of the form is of the flag class LOGIC. -/
theorem aluIf_logic {c : Cond} {s s1 : State} (hw : When c s s1) {z : AluDest} {f : State → AluOut}
    {r : Word} (hf : f s1 = logic s1 r) : aluIf c z f s = .next (logicResult z s1 r) := by
  rw [aluIf_taken hw.1 hw.2, hf, logic_eq, writeAlu_aluOut, logicResult]

/-- The operation of the form is a difference without a borrow. -/
theorem aluIf_minus {c : Cond} {s s1 : State} (hw : When c s s1) {z : AluDest}
    {f : State → AluOut} {p q : Word} (hf : f s1 = arith s1 p (~~~ q) true) :
    aluIf c z f s = .next (diffResult z s1 p q false) :=
  aluIf_diff (cin := true) hw hf

/-- The operation of the form is a difference whose borrow is a clear AC (R172). -/
theorem aluIf_borrow {c : Cond} {s s1 : State} (hw : When c s s1) {z : AluDest}
    {f : State → AluOut} {p q : Word} (hf : f s1 = arith s1 p (~~~ q) (s1.flag .ac)) :
    aluIf c z f s = .next (diffResult z s1 p q (!carryIn s1)) := aluIf_diff hw hf

/-- A form with a constant that the member has is its operation under the condition (R121). -/
theorem aluConstIf_of_hasConst {k : Word} {c : Cond} {z : AluDest} {f : State → AluOut} {s : State}
    {r : Result} (hk : HasConst s k) (h : aluIf c z f s = r) : aluConstIf k c z f s = r :=
  (aluConstIf_eq hk.1 hk.2 c z f).trans h

/-- On a member with the constant forms the bit operations and PASS 0 are there (R182, R186). -/
theorem aluOptionIf_of_has {c : Cond} {z : AluDest} {f : State → AluOut} {s : State} {r : Result}
    (hhas : s.params.hasAluConstants = true) (h : aluIf c z f s = r) : aluOptionIf c z f s = r := by
  rw [aluOptionIf, hhas, needs_true, h]

/-- Settles O16: every form is the adder on its operands. -/
theorem addForms : Obligations.AddForms := by
  unfold Obligations.AddForms
  intro z x y k n c s s1 hw
  rw [← constValue_eq_constVal, ← notBitConst_eq_notPow2]
  exact ⟨aluIf_sum hw rfl, aluIf_sum hw rfl, aluIf_sum hw rfl,
    fun hk => ⟨aluConstIf_of_hasConst hk (aluIf_sum hw rfl),
      aluConstIf_of_hasConst hk (aluIf_sum hw rfl)⟩,
    fun hn => ⟨aluConstIf_of_hasConst hn (aluIf_sum hw rfl),
      aluConstIf_of_hasConst hn (aluIf_sum hw rfl)⟩⟩

/-- Settles O17: every form adds the complement of what it subtracts. -/
theorem subtractForms : Obligations.SubtractForms := by
  unfold Obligations.SubtractForms
  intro z x y k n c s s1 hw u v minus borrow
  rw [← constValue_eq_constVal, ← notBitConst_eq_notPow2]
  exact ⟨aluIf_minus hw rfl, aluIf_borrow hw rfl, aluIf_borrow hw rfl, aluIf_minus hw rfl,
    aluIf_borrow hw rfl, aluIf_borrow hw rfl,
    fun hk => ⟨aluConstIf_of_hasConst hk (aluIf_minus hw rfl),
      aluConstIf_of_hasConst hk (aluIf_borrow hw rfl),
      aluConstIf_of_hasConst hk (aluIf_minus hw rfl),
      aluConstIf_of_hasConst hk (aluIf_borrow hw rfl)⟩,
    fun hn => ⟨aluConstIf_of_hasConst hn (aluIf_minus hw rfl),
      aluConstIf_of_hasConst hn (aluIf_borrow hw rfl),
      aluConstIf_of_hasConst hn (aluIf_minus hw rfl),
      aluConstIf_of_hasConst hn (aluIf_borrow hw rfl)⟩⟩

/-- Settles O18: every form is of the class LOGIC. -/
theorem logicForms : Obligations.LogicForms := by
  unfold Obligations.LogicForms
  intro z x y k n c s s1 hw
  rw [← constValue_eq_constVal, ← notBitConst_eq_notPow2]
  exact ⟨aluIf_logic hw rfl, aluIf_logic hw rfl, aluIf_logic hw rfl,
    fun hk => ⟨aluConstIf_of_hasConst hk (aluIf_logic hw rfl),
      aluConstIf_of_hasConst hk (aluIf_logic hw rfl),
      aluConstIf_of_hasConst hk (aluIf_logic hw rfl)⟩,
    fun hn => ⟨aluConstIf_of_hasConst hn (aluIf_logic hw rfl),
      aluConstIf_of_hasConst hn (aluIf_logic hw rfl),
      aluConstIf_of_hasConst hn (aluIf_logic hw rfl)⟩⟩

/-! ### Bit operations, PASS and NOT (R182 to R186, R188) -/

/-- The mask of a bit number, bit by bit (R121). -/
theorem getLsbD_bitConst (n : Bit) {j : Nat} (hj : j < 16) :
    (bitConst n).getLsbD j = decide (j = n.val) := getLsbD_oneHot n.val j hj

/-- Settles O19: the operand with the mask of bit `n`, or the operand with its complement. -/
theorem bitOperations : Obligations.BitOperations := by
  unfold Obligations.BitOperations
  intro z x n c s s1 hw hhas
  refine ⟨xAlu x s1 &&& bitConst n, xAlu x s1 ||| bitConst n, xAlu x s1 &&& ~~~ bitConst n,
    xAlu x s1 ^^^ bitConst n, fun j hj => ?_, aluOptionIf_of_has hhas (aluIf_logic hw rfl),
    aluOptionIf_of_has hhas (aluIf_logic hw rfl), aluOptionIf_of_has hhas (aluIf_logic hw rfl),
    aluOptionIf_of_has hhas (aluIf_logic hw rfl)⟩
  rw [BitVec.getLsbD_and, BitVec.getLsbD_or, BitVec.getLsbD_and, BitVec.getLsbD_xor,
    BitVec.getLsbD_not, getLsbD_bitConst n hj]
  by_cases h : j = n.val <;> simp [h, hj]

/-- The complement as a number (R188). -/
theorem Word.not_eq_ofNat (v : Word) : ~~~ v = BitVec.ofNat 16 (65535 - v.toNat) := by
  rw [← Word.toNat_not, BitVec.ofNat_toNat, BitVec.setWidth_eq]

/-- Settles O20: every form is of the class LOGIC, those with a constant where the member has it. -/
theorem passAndNot : Obligations.PassAndNot := by
  unfold Obligations.PassAndNot
  intro z x y k n c s s1 hw
  rw [← Word.not_eq_ofNat, ← Word.not_eq_ofNat, ← constValue_eq_constVal, ← notBitConst_eq_notPow2]
  exact ⟨aluIf_logic hw rfl, aluIf_logic hw rfl, aluIf_logic hw rfl, aluIf_logic hw rfl,
    fun hhas => aluOptionIf_of_has hhas (aluIf_logic hw rfl),
    fun h1 => aluConstIf_of_hasConst h1 (aluIf_logic hw rfl),
    fun hm1 => aluConstIf_of_hasConst hm1 (aluIf_logic hw rfl),
    fun hk => aluConstIf_of_hasConst hk (aluIf_logic hw rfl),
    fun hn => aluConstIf_of_hasConst hn (aluIf_logic hw rfl)⟩

/-! ### NEGATE, INCREMENT, DECREMENT and ABS (R187, R189 to R191) -/

/-- Settles O21: negation subtracts from 0, decrement subtracts 1. -/
theorem negIncDec : Obligations.NegIncDec := by
  unfold Obligations.NegIncDec
  intro z x y c s s1 hw
  exact ⟨aluIf_minus hw rfl, aluIf_minus hw rfl, aluIf_sum hw rfl,
    aluIf_minus hw (arith_minus_one s1 _)⟩

/-- Only 0x8000 has no absolute value in 16 bits. -/
theorem Word.eq_intMin_iff (x : Word) : (x == BitVec.intMin Config.W) = decide (x.toInt = -32768) := by
  rw [Bool.eq_iff_iff, beq_iff_eq, decide_eq_true_iff]
  exact BitVec.toInt_inj.symm

theorem Word.msb_eq_neg (x : Word) : x.msb = decide (x.toInt < 0) := BitVec.msb_eq_toInt

/-- The absolute value modulo 2^16. -/
theorem Word.abs_eq_natAbs (x : Word) :
    (if x.toInt < 0 then 0 - x else x) = BitVec.ofNat 16 x.toInt.natAbs := by
  have hx := Word.toNat_lt x
  refine BitVec.eq_of_toNat_eq ?_
  by_cases h : x.toInt < 0
  · rw [if_pos h, zero_sub, BitVec.toNat_neg, BitVec.toNat_ofNat, two_pow_W]
    rw [Word.toInt_eq] at h ⊢
    split at h <;> omega
  · rw [if_neg h, BitVec.toNat_ofNat, two_pow_W]
    rw [Word.toInt_eq] at h ⊢
    split at h <;> omega

/-- The result of ABS has its sign bit set where 16 bits do not hold the absolute value. -/
theorem Word.natAbs_negative_iff (x : Word) :
    decide (32768 ≤ (BitVec.ofNat 16 x.toInt.natAbs).toNat) = decide (x.toInt = -32768) := by
  have hx := Word.toNat_lt x
  rw [decide_eq_decide, BitVec.toNat_ofNat, Word.toInt_eq]
  split <;> omega

/-- The outcome of ABS but for AS. -/
def absOut (s : State) (x : Word) : AluOut :=
  aluOut s (BitVec.ofNat 16 x.toInt.natAbs) (decide (x.toInt = -32768)) false

theorem absolute_eq (s : State) (x : Word) :
    absolute s x =
      { absOut s x with astat := withFlag (absOut s x).astat .asg (decide (x.toInt < 0)) } := by
  simp only [absolute, absOut, aluOut, withFlag_eq_aluFlags, Word.natAbs_negative_iff,
    Word.eq_intMin_iff, Word.msb_eq_neg, decide_eq_true_eq, Word.abs_eq_natAbs, avNext_eq]

/-- An outcome written with another ASTAT. -/
theorem writeAlu_with_astat (z : AluDest) (o : AluOut) (a : BitVec 8) (s : State) :
    (writeAlu z { o with astat := a } s).stepped = (writeAlu z o s).stepped.setAstat a := by
  cases z <;> rfl

/-- Settles O22: AS is replaced in the ASTAT that the other flags of the operation leave. -/
theorem absResult : Obligations.AbsResult := by
  unfold Obligations.AbsResult
  intro z x c s s1 hw
  have hastat : (writeAlu z (absOut s1 (xAlu x s1)) s1).stepped.astat =
      (absOut s1 (xAlu x s1)).astat := writeAlu_astat z _ s1
  calc exec (.absX z x c) s
    _ = .next (writeAlu z (absolute s1 (xAlu x s1)) s1).stepped :=
      aluIf_taken hw.1 hw.2 z (evalAlu (.absX x))
    _ = _ := by
      rw [absolute_eq, writeAlu_with_astat, ← hastat, withFlag_asg, absOut, writeAlu_aluOut]

/-! ### The division steps and NONE = (R192 to R194) -/

/-- Settles O23: the three values written, whatever the open functions give. -/
theorem divideSteps : Obligations.DivideSteps := by
  unfold Obligations.DivideSteps
  intro x y s hs after
  have hstep (r : Bool × Word × Word) : sequential (.ok (divideWrite r s)) = .next (after r) := by
    rw [sequential_ok hs (by simp [divideWrite]) (by simp [divideWrite]), divideWrite, withFlag_aq]
  exact ⟨hstep _, hstep _⟩

/-- Settles O24: both write the ASTAT of the expression's outcome. -/
theorem noneKeepsRegisters : Obligations.NoneKeepsRegisters := by
  unfold Obligations.NoneKeepsRegisters
  intro f s hhas hs
  have hastat : (writeAlu .ar (evalAlu f s) s).stepped.astat = (evalAlu f s).astat :=
    writeAlu_astat .ar _ s
  refine ⟨(writeAlu .ar (evalAlu f s) s).stepped, ?_, ?_⟩
  · rw [exec_aluInstr, aluIf_taken (evalCond_always s) hs]
  · rw [hastat]
    calc exec (.noneAlu f) s
      _ = needs s.params.hasAluConstants (sequential (.ok (s.setAstat (evalAlu f s).astat))) := rfl
      _ = .next (s.setAstat (evalAlu f s).astat).stepped := by
        rw [hhas, needs_true]
        exact sequential_ok hs rfl rfl

/-! ### The writers of AS and SS (R27, R189, R256)

A step changes ASTAT through its own effect alone: conditions, stacks, moves and the next pc leave it.
What an effect keeps of AS and SS is said of the two status words, before and after. -/

/-- From the status word `a` to `b`, AS is kept but by ABS (`abs`) and SS but by EXP (`exp`). -/
structure KeepsAsSs (abs exp : Bool) (a b : BitVec 8) : Prop where
  as : abs = false → flagOf b .asg = flagOf a .asg
  ss : exp = false → flagOf b .ss = flagOf a .ss

section keeps
variable {abs exp : Bool}

theorem KeepsAsSs.of_eq {a b : BitVec 8} (h : b = a) : KeepsAsSs abs exp a b := by
  subst h
  exact ⟨fun _ => rfl, fun _ => rfl⟩

/-- The flags of every ALU operation but ABS. -/
theorem keepsAsSs_aluFlags (a : BitVec 8) (z n v c : Bool) :
    KeepsAsSs abs exp a (aluFlags a z n v c) :=
  ⟨fun _ => flagOf_aluFlags a z n v c .asg, fun _ => flagOf_aluFlags a z n v c .ss⟩

theorem keepsAsSs_arith (s : State) (a b : Word) (cin : Bool) :
    KeepsAsSs abs exp s.astat (arith s a b cin).astat := by
  rw [arith_eq]
  exact keepsAsSs_aluFlags ..

theorem keepsAsSs_logic (s : State) (r : Word) : KeepsAsSs abs exp s.astat (logic s r).astat := by
  rw [logic_eq]
  exact keepsAsSs_aluFlags ..

/-- ABS writes AS, and keeps SS. -/
theorem keepsAsSs_absolute (s : State) (x : Word) :
    KeepsAsSs true exp s.astat (absolute s x).astat := by
  refine ⟨nofun, fun _ => ?_⟩
  rw [absolute_eq]
  exact (flagOf_withFlag _ .asg .ss _).trans (flagOf_aluFlags _ _ _ _ _ .ss)

theorem keepsAsSs_evalAlu (f : AluFn) (s : State) :
    KeepsAsSs (isAbs f) exp s.astat (evalAlu f s).astat := by
  cases f with
  | absX x => exact keepsAsSs_absolute s _
  | land | lor | lxor | passX | passY | notX | notY => exact keepsAsSs_logic ..
  | _ => exact keepsAsSs_arith ..

/-- A flag that is neither AS nor SS replaced. -/
theorem keepsAsSs_withFlag (a : BitVec 8) {f : Flag} (has : f ≠ .asg) (hss : f ≠ .ss) (b : Bool) :
    KeepsAsSs abs exp a (withFlag a f b) :=
  ⟨fun _ => (flagOf_withFlag a f .asg b).trans (if_neg has.symm),
    fun _ => (flagOf_withFlag a f .ss b).trans (if_neg hss.symm)⟩

/-- EXP writes SS, and keeps AS. -/
theorem keepsAsSs_withFlag_ss (a : BitVec 8) (b : Bool) : KeepsAsSs abs true a (withFlag a .ss b) :=
  ⟨fun _ => flagOf_withFlag a .ss .asg b, nofun⟩

theorem keepsAsSs_macAstat (s : State) (r : Acc) : KeepsAsSs abs exp s.astat (macAstat s r) :=
  keepsAsSs_withFlag (f := .mv) _ nofun nofun _

/-- A Shifter computation over `t` keeps what it does not write. -/
theorem keepsAsSs_evalShift (f : ShiftFn) (s t : State) :
    KeepsAsSs abs (isExp f) t.astat (evalShift f s t).astat := by
  cases f with
  | exp => exact keepsAsSs_withFlag_ss _ _
  | shift | expadj => exact .of_eq (t.setBank_astat _)

/-- The clause is ABS. -/
def compIsAbs : Comp → Bool
  | .alu f _ => isAbs f
  | .mac _ _ => false

/-- A computation clause, over a state that moves with the status word of `s` leave. -/
theorem keepsAsSs_evalComp (o : Comp) {s u : State} (hu : u.astat = s.astat) :
    KeepsAsSs (compIsAbs o) exp s.astat (evalComp o s u).astat := by
  cases o with
  | alu f z =>
    rw [evalComp, writeAlu_astat]
    exact keepsAsSs_evalAlu f s
  | mac f z =>
    rw [evalComp, writeMac_astat, ← hu]
    exact keepsAsSs_macAstat u _

/-! #### What leaves ASTAT alone -/

/-- The operation leaves ASTAT as it is in `s`. -/
def LeavesAstat (s : State) (e : Eff State) : Prop := ∀ t, e = .ok t → t.astat = s.astat

section leaves
variable {s : State}

theorem leavesAstat_ok {t : State} (h : t.astat = s.astat) : LeavesAstat s (.ok t) := by
  intro u e
  cases e
  exact h

theorem leavesAstat_dropPc : LeavesAstat s (dropPc s) := by
  intro t h
  obtain ⟨_, _, -, rfl⟩ := dropPc_ok.mp h
  rfl

theorem leavesAstat_dropLoop : LeavesAstat s (dropLoop s) := by
  intro t h
  obtain ⟨_, _, -, rfl⟩ := dropLoop_ok.mp h
  rfl

theorem leavesAstat_popCntr : LeavesAstat s (popCntr s) := by
  intro t h
  obtain ⟨_, _, -, rfl⟩ := popCntr_ok.mp h
  rfl

theorem leavesAstat_pushSts : LeavesAstat s (pushSts s) := by
  intro t h
  obtain ⟨-, rfl⟩ := pushSts_ok.mp h
  rfl

theorem leavesAstat_optionally {b : Bool} {f : State → Eff State} (hf : LeavesAstat s (f s)) :
    LeavesAstat s (optionally b f s) := by
  cases b
  · exact leavesAstat_ok rfl
  · exact hf

/-- Of the stack clauses POP STS alone brings an ASTAT back (R343). -/
theorem leavesAstat_stackOps {o : StackOps} (ho : (o.sts == some .pop) = false) :
    LeavesAstat s (stackOps o s) := by
  intro t h
  obtain ⟨u, v, w, hsts, hcntr, hpc, hloop⟩ := stackOps_ok.mp h
  have hu : u.astat = s.astat := by
    match hs : o.sts with
    | none => rw [hs] at hsts; exact leavesAstat_ok rfl u hsts
    | some .push => rw [hs] at hsts; exact leavesAstat_pushSts u hsts
    | some .pop => rw [hs] at ho; exact absurd ho (by decide)
  calc t.astat
    _ = w.astat := leavesAstat_optionally leavesAstat_dropLoop t hloop
    _ = v.astat := leavesAstat_optionally leavesAstat_dropPc w hpc
    _ = u.astat := leavesAstat_optionally leavesAstat_popCntr v hcntr
    _ = s.astat := hu

theorem leavesAstat_advance : LeavesAstat s (advance s) := by
  intro t h
  obtain ⟨-, ⟨-, rfl⟩ | ⟨e, _, b, u, -, -, hterm, hend⟩⟩ := advance_ok h
  · rfl
  · have hu : u.astat = s.astat := (evalTerm_same hterm).astat
    obtain ⟨-, v, hloop, w, hpc, rfl⟩ | ⟨-, _, _, -, rfl⟩ := hend
    · exact (leavesAstat_dropPc w hpc).trans ((leavesAstat_dropLoop v hloop).trans hu)
    · exact hu

theorem leavesAstat_loadDm {d : DReg} {p : Pair} : LeavesAstat s (loadDm d p s) := by
  intro t h
  obtain ⟨v, -, rfl⟩ := loadDm_ok.mp h
  exact wrD_astat d v _

theorem leavesAstat_loadPm {d : DReg} {p : Pair} : LeavesAstat s (loadPm d p s) := by
  intro t h
  obtain ⟨w, -, rfl⟩ := loadPm_ok.mp h
  exact wrD_astat d _ _

theorem leavesAstat_storeDm {p : Pair} {v : Word} : LeavesAstat s (storeDm p v s) := by
  intro t h
  obtain ⟨u, hu, rfl⟩ := storeDm_ok.mp h
  obtain ⟨-, rfl⟩ := writeDm_ok.mp hu
  rfl

theorem leavesAstat_storePm {p : Pair} {v : Word} : LeavesAstat s (storePm p v s) := by
  intro t h
  obtain ⟨u, hu, rfl⟩ := storePm_ok.mp h
  obtain ⟨-, rfl⟩ := writeCell_ok.mp hu
  rfl

theorem leavesAstat_twoReads {d : XDual} {p : Pair} {y : YDual} {q : Pair} :
    LeavesAstat s (twoReads d p y q s) := by
  intro t h
  obtain ⟨w, v, -, -, rfl⟩ := twoReads_ok.mp h
  exact (wrD_astat _ _ _).trans (wrD_astat _ _ _)

theorem leavesAstat_storeDirect {a : Addr} {r : Reg} : LeavesAstat s (storeDirect a r s) := by
  intro t h
  obtain ⟨⟨v, u⟩, hr, hw⟩ := bind_ok.mp h
  obtain ⟨-, rfl⟩ := writeDm_ok.mp hw
  obtain rfl | rfl := readReg_same hr <;> rfl

/-- A write of a register that is not ASTAT (R291). -/
theorem leavesAstat_writeReg {d : Reg} (hd : d ≠ .astat) (v : Word) :
    LeavesAstat s (writeReg d v s) := by
  intro t h
  cases d with
  | astat => exact absurd rfl hd
  | sstat => cases h
  | dreg d => cases h; exact wrD_astat d v s
  | sb => cases h; exact s.setBank_astat _
  | cntr => obtain ⟨-, rfl⟩ | ⟨-, -, rfl⟩ := writeCntr_ok.mp h <;> rfl
  | _ => cases h; rfl

theorem leavesAstat_moveReg {d r : Reg} (hd : d ≠ .astat) : LeavesAstat s (moveReg d r s) := by
  intro t h
  obtain ⟨⟨v, u⟩, hr, hw⟩ := bind_ok.mp h
  have ht := leavesAstat_writeReg hd v t hw
  obtain rfl | rfl := readReg_same hr <;> exact ht

theorem leavesAstat_loadDirect {d : Reg} {a : Addr} (hd : d ≠ .astat) :
    LeavesAstat s (loadDirect d a s) := by
  intro t h
  obtain ⟨v, -, hw⟩ := bind_ok.mp h
  exact leavesAstat_writeReg hd v t hw

theorem leavesAstat_callTo {a : Addr} : LeavesAstat s (callTo a s) := by
  intro t h
  obtain ⟨-, -, rfl⟩ := callTo_ok.mp h
  rfl

theorem leavesAstat_returnFromCall : LeavesAstat s (returnFromCall s) := by
  intro t h
  obtain ⟨_, _, -, rfl⟩ := returnFromCall_ok.mp h
  rfl

theorem leavesAstat_startLoop {a : Addr} {x : Term} : LeavesAstat s (startLoop a x s) := by
  intro t h
  obtain ⟨-, -, -, -, -, rfl⟩ := startLoop_ok.mp h
  rfl

theorem leavesAstat_goIdle : LeavesAstat s (goIdle s) := by
  intro t h
  obtain ⟨-, rfl⟩ := goIdle_ok.mp h
  rfl

theorem leavesAstat_takeIf {c : Cond} {f : State → Eff State} (hf : ∀ u, LeavesAstat u (f u)) :
    LeavesAstat s (takeIf c f s) := by
  intro t h
  obtain ⟨b, u, hc, h⟩ := takeIf_ok.mp h
  have hu := (evalCond_same hc).astat
  cases b
  · obtain ⟨-, rfl⟩ := h
    exact hu
  · exact (hf u t h).trans hu

theorem leavesAstat_takeIfFlag {n : Bool} {f : State → Eff State} (hf : ∀ u, LeavesAstat u (f u)) :
    LeavesAstat s (takeIfFlag n f s) := by
  intro t h
  obtain ⟨-, h⟩ | ⟨-, -, rfl⟩ := takeIfFlag_ok.mp h
  · exact hf (sampleFi s) t h
  · rfl

end leaves

theorem saturateMr_astat (s : State) : (saturateMr s).astat = s.astat := by
  unfold saturateMr
  split
  · exact s.setBank_astat _
  · rfl

theorem flagOps_astat (o : FlagOps) (s : State) : (flagOps o s).astat = s.astat := by
  unfold flagOps
  split <;> rfl

/-! #### The instructions -/

section instructions
variable {s t : State}

/-- A sequential instruction keeps what its effect keeps. -/
theorem sequential_keepsAsSs {e : Eff State} (h : sequential e = .next t)
    (he : ∀ u, e = .ok u → KeepsAsSs abs exp s.astat u.astat) :
    KeepsAsSs abs exp s.astat t.astat := by
  obtain ⟨u, hu, hadv⟩ := sequential_next.mp h
  rw [leavesAstat_advance t hadv]
  exact he u hu

theorem sequential_leaves {e : Eff State} (h : sequential e = .next t) (he : LeavesAstat s e) :
    KeepsAsSs abs exp s.astat t.astat :=
  sequential_keepsAsSs h fun u hu => .of_eq (he u hu)

theorem transfer_leaves {e : Eff State} (h : transfer e s = .next t) (he : LeavesAstat s e) :
    KeepsAsSs abs exp s.astat t.astat := .of_eq (he t (transfer_next.mp h).2)

/-- A sequential instruction under a condition keeps what the update it makes keeps (R125). -/
theorem sequential_ifThen_keepsAsSs {c : Cond} {f : State → State}
    (h : sequential (ifThen c (fun u => .ok (f u)) s) = .next t)
    (hf : ∀ u, KeepsAsSs abs exp u.astat (f u).astat) :
    KeepsAsSs abs exp s.astat t.astat := by
  refine sequential_keepsAsSs h fun v hv => ?_
  obtain ⟨b, u, hc, hv⟩ := ifThen_ok.mp hv
  rw [← (evalCond_same hc).astat]
  cases b
  · exact .of_eq (congrArg State.astat hv)
  · cases hv
    exact hf u

theorem aluIf_keepsAsSs {c : Cond} {z : AluDest} {f : State → AluOut}
    (h : aluIf c z f s = .next t) (hf : ∀ u, KeepsAsSs abs exp u.astat (f u).astat) :
    KeepsAsSs abs exp s.astat t.astat := by
  refine sequential_ifThen_keepsAsSs h fun u => ?_
  rw [writeAlu_astat]
  exact hf u

theorem aluIf_evalAlu_keepsAsSs {c : Cond} {z : AluDest} {f : AluFn}
    (h : aluIf c z (evalAlu f) s = .next t) : KeepsAsSs (isAbs f) exp s.astat t.astat :=
  aluIf_keepsAsSs h (keepsAsSs_evalAlu f)

theorem macIf_keepsAsSs {c : Cond} {z : MacDest} {f : State → Acc} (h : macIf c z f s = .next t) :
    KeepsAsSs abs exp s.astat t.astat := by
  refine sequential_ifThen_keepsAsSs h fun u => ?_
  rw [writeMac_astat]
  exact keepsAsSs_macAstat u _

theorem shiftIf_keepsAsSs {c : Cond} {f : ShiftFn} (h : shiftIf c (evalShift f) s = .next t) :
    KeepsAsSs abs (isExp f) s.astat t.astat :=
  sequential_ifThen_keepsAsSs h fun u => keepsAsSs_evalShift f u u

/-- A computation clause keeps beside a move what it keeps alone. -/
theorem sequential_evalComp_keepsAsSs {o : Comp} {m : State → Eff State}
    (h : sequential (withClause (evalComp o s) m s) = .next t) (hm : LeavesAstat s (m s))
    (habs : abs = compIsAbs o) :
    KeepsAsSs abs exp s.astat t.astat := by
  subst habs
  refine sequential_keepsAsSs h fun v hv => ?_
  obtain ⟨u, hu, rfl⟩ := withClause_ok.mp hv
  exact keepsAsSs_evalComp o (hm u hu)

theorem sequential_evalShift_keepsAsSs {f : ShiftFn} {m : State → Eff State}
    (h : sequential (withClause (evalShift f s) m s) = .next t) (hm : LeavesAstat s (m s)) :
    KeepsAsSs abs (isExp f) s.astat t.astat := by
  refine sequential_keepsAsSs h fun v hv => ?_
  obtain ⟨u, hu, rfl⟩ := withClause_ok.mp hv
  rw [← hm u hu]
  exact keepsAsSs_evalShift f s u

theorem leavesAstat_dregMove (d r : DReg) :
    LeavesAstat s ((fun s => .ok (wrD d (rdD r s) s) : State → Eff State) s) :=
  leavesAstat_ok (wrD_astat d _ s)

end instructions

end keeps

/-- An instruction with a next state that does not replace ASTAT whole: the constructors by family,
each with the lemma about the operation it shares. -/
theorem exec_keepsAsSs {i : Instr} {s t : State} (h : exec i s = .next t)
    (hi : replacesAstat i = false) : KeepsAsSs (hasAbs i) (hasExp i) s.astat t.astat := by
  cases i with
  | addXY | addXC | addXYC | subXY | subXYC | subXC | subYX | subYXC | negXC | andXY | orXY | xorXY
  | passX | passY | negX | negY | notX | notY | absX | incY | decY =>
    exact aluIf_evalAlu_keepsAsSs h
  | addXK | addXKC | addXNK | addXNKC | subXK | subXKC | subXNK | subXNKC | subKX | subKXC | subNKX
  | subNKXC =>
    exact aluIf_keepsAsSs (aluConstIf_next.mp h).2.2 fun u => keepsAsSs_arith u _ _ _
  | andXK | andXNK | orXK | orXNK | xorXK | xorXNK | pass1 | passM1 | passK | passNK =>
    exact aluIf_keepsAsSs (aluConstIf_next.mp h).2.2 fun u => keepsAsSs_logic u _
  | tstbit | setbit | clrbit | tglbit | pass0 =>
    exact aluIf_keepsAsSs (aluOptionIf_next.mp h).2 fun u => keepsAsSs_logic u _
  | divs | divq =>
    refine sequential_keepsAsSs h fun u hu => ?_
    cases hu
    exact keepsAsSs_withFlag (f := .aq) s.astat nofun nofun _
  | noneAlu f =>
    refine sequential_keepsAsSs (needs_next.mp h).2 fun u hu => ?_
    cases hu
    exact keepsAsSs_evalAlu f s
  | mulRnd | mulSs | mulSu | mulUs | mulUu | macRnd | macSs | macSu | macUs | macUu | msubRnd | msubSs
  | msubSu | msubUs | msubUu | square | mrZero | mrMr | mrMrRnd => exact macIf_keepsAsSs h
  | satMr => exact sequential_leaves h (leavesAstat_ok (saturateMr_astat s))
  | ashift | lshift | norm | expHi | expHix | expLo | expadj => exact shiftIf_keepsAsSs h
  | ashiftImm | lshiftImm => exact sequential_leaves h (leavesAstat_ok (s.setBank_astat _))
  | regReg => exact sequential_leaves h (leavesAstat_moveReg (by rintro rfl; cases hi))
  | regDmAddr => exact sequential_leaves h (leavesAstat_loadDirect (by rintro rfl; cases hi))
  | regData => exact sequential_leaves h (leavesAstat_writeReg (by rintro rfl; cases hi) _)
  | dregDm => exact sequential_leaves h leavesAstat_loadDm
  | dregPm => exact sequential_leaves h leavesAstat_loadPm
  | dmDreg | dmData => exact sequential_leaves h leavesAstat_storeDm
  | pmDreg => exact sequential_leaves h leavesAstat_storePm
  | dmAddrReg => exact sequential_leaves h leavesAstat_storeDirect
  | dregData => exact sequential_leaves h (leavesAstat_ok (wrD_astat _ _ s))
  | jumpAddr | jumpInd => exact transfer_leaves h (leavesAstat_takeIf fun _ => leavesAstat_ok rfl)
  | jumpFlag => exact transfer_leaves h (leavesAstat_takeIfFlag fun _ => leavesAstat_ok rfl)
  | callAddr | callInd => exact transfer_leaves h (leavesAstat_takeIf fun _ => leavesAstat_callTo)
  | callFlag => exact transfer_leaves h (leavesAstat_takeIfFlag fun _ => leavesAstat_callTo)
  | rts => exact transfer_leaves h (leavesAstat_takeIf fun _ => leavesAstat_returnFromCall)
  | popSts | rti => cases hi
  | doUntil => exact transfer_leaves h leavesAstat_startLoop
  | idle => exact transfer_leaves h leavesAstat_goIdle
  | idleN => exact transfer_leaves (needs_next.mp h).2 leavesAstat_goIdle
  | stackControl => exact sequential_leaves h (leavesAstat_stackOps hi)
  | pushSts => exact sequential_leaves h leavesAstat_pushSts
  | popCntr => exact sequential_leaves h leavesAstat_popCntr
  | popPc => exact sequential_leaves h leavesAstat_dropPc
  | popLoop => exact sequential_leaves h leavesAstat_dropLoop
  | nop | modeControl | enaTimer | disTimer | enaMMode | disMMode | enaArSat | disArSat | enaAvLatch
  | disAvLatch | enaBitRev | disBitRev | enaSecReg | disSecReg | enaGMode | disGMode | modify =>
    exact sequential_leaves h (leavesAstat_ok rfl)
  | flagOut o =>
    exact sequential_ifThen_keepsAsSs (needs_next.mp h).2 fun u => .of_eq (flagOps_astat o u)
  | enaInts | disInts => exact sequential_leaves (needs_next.mp h).2 (leavesAstat_ok rfl)
  | dualRead => exact sequential_leaves h leavesAstat_twoReads
  | compDmPm o =>
    exact sequential_evalComp_keepsAsSs h leavesAstat_twoReads (by cases o <;> rfl)
  | compDm o =>
    exact sequential_evalComp_keepsAsSs (unlessClash_next.mp h).2 leavesAstat_loadDm
      (by cases o <;> rfl)
  | compPm o =>
    exact sequential_evalComp_keepsAsSs (unlessClash_next.mp h).2 leavesAstat_loadPm
      (by cases o <;> rfl)
  | compMove o d r =>
    exact sequential_evalComp_keepsAsSs (unlessClash_next.mp h).2 (leavesAstat_dregMove d r)
      (by cases o <;> rfl)
  | dmComp p r o => exact sequential_evalComp_keepsAsSs h leavesAstat_storeDm (by cases o <;> rfl)
  | pmComp p r o => exact sequential_evalComp_keepsAsSs h leavesAstat_storePm (by cases o <;> rfl)
  | shiftDm => exact sequential_evalShift_keepsAsSs (unlessClash_next.mp h).2 leavesAstat_loadDm
  | shiftPm => exact sequential_evalShift_keepsAsSs (unlessClash_next.mp h).2 leavesAstat_loadPm
  | shiftMove f d r =>
    exact sequential_evalShift_keepsAsSs (unlessClash_next.mp h).2 (leavesAstat_dregMove d r)
  | dmShift => exact sequential_evalShift_keepsAsSs h leavesAstat_storeDm
  | pmShift => exact sequential_evalShift_keepsAsSs h leavesAstat_storePm

/-- Settles O25: AS and SS are bits 4 and 7 of ASTAT. -/
theorem writersOfAsAndSs : Obligations.WritersOfAsAndSs := by
  unfold Obligations.WritersOfAsAndSs
  intro i s t h hi
  obtain ⟨has, hss⟩ := exec_keepsAsSs h hi
  exact ⟨has, hss⟩

end Sys2Proof.Machine
end

section
/-! PROOFS of the statements about the MAC (spec/42_mac.md). The model computes in 40-bit vectors
and cuts the result into fields; the statements are about integers and quotients. The product, the
adder, MR and the write of a result are each told once in their terms; every form cites them. -/

namespace Sys2Proof.Machine

open Sys2Proof.Claims

/-! ### What an operation writes (R223, R231) -/

theorem withFlag_mv (a : BitVec 8) (b : Bool) :
    withFlag a .mv b = a.extractLsb' 7 1 ++ BitVec.ofBool b ++ a.extractLsb' 0 6 := by
  refine astat_ext fun f => ?_
  rw [flagOf_withFlag]
  cases f <;>
    simp only [flagOf, Flag.bit, BitVec.getLsbD_append, BitVec.getLsbD_extractLsb',
      BitVec.getLsbD_ofBool] <;> rfl

/-- A field of a result as a quotient. -/
theorem Acc.field_eq_ofNat (r : Acc) (k n : Nat) :
    r.extractLsb' k n = BitVec.ofNat n (r.toNat / 2 ^ k) := by
  rw [BitVec.extractLsb', Nat.shiftRight_eq_div_pow]

/-- The nine top bits are alike exactly where 32 bits hold the signed result (R223). -/
theorem macOverflow_eq (r : Acc) :
    macOverflow r = !(decide (-2147483648 ≤ r.toInt) && decide (r.toInt ≤ 2147483647)) := by
  have hr := Acc.toNat_lt r
  have htop (v : BitVec 9) : (BitVec.ofNat 9 (r.toNat / 2 ^ 31) == v) =
      decide (r.toNat / 2147483648 = v.toNat) := by
    rw [Bool.eq_iff_iff, beq_iff_eq, decide_eq_true_iff, ← BitVec.toNat_inj, BitVec.toNat_ofNat]
    omega
  have hzero : r.toNat / 2147483648 = 0 ↔ 0 ≤ r.toInt ∧ r.toInt ≤ 2147483647 := by
    rw [Acc.toInt_eq]
    split <;> omega
  have hones : r.toNat / 2147483648 = 511 ↔ -2147483648 ≤ r.toInt ∧ r.toInt < 0 := by
    rw [Acc.toInt_eq]
    split <;> omega
  calc macOverflow r
    _ = !(decide (r.toNat / 2147483648 = 0) || decide (r.toNat / 2147483648 = 511)) := by
      rw [macOverflow, Acc.field_eq_ofNat]
      exact congrArg (!·) (congrArg₂ (· || ·) (htop 0) (htop (BitVec.allOnes 9)))
    _ = _ := by
      rw [decide_eq_decide.mpr hzero, decide_eq_decide.mpr hones, ← Bool.decide_or,
        ← Bool.decide_and]
      exact congrArg (!·) (decide_eq_decide.mpr (by omega))

/-- ASTAT after a MAC operation: MV by the range, every other flag kept (R223). -/
theorem macAstat_eq (s : State) (r : Acc) :
    macAstat s r = s.astat.extractLsb' 7 1 ++
      BitVec.ofBool (!(decide (-2147483648 ≤ r.toInt) && decide (r.toInt ≤ 2147483647))) ++
      s.astat.extractLsb' 0 6 := by
  rw [macAstat, withFlag_mv, macOverflow_eq]

/-- The three registers of MR as quotients of the result (R33). -/
theorem Bank.withMr_eq (b : Bank) (r : Acc) :
    b.withMr r = { b with
      mr2 := BitVec.ofNat 8 (r.toNat / 2 ^ 32), mr1 := BitVec.ofNat 16 (r.toNat / 2 ^ 16),
      mr0 := BitVec.ofNat 16 r.toNat } := by
  rw [Bank.withMr, Acc.field_eq_ofNat, Acc.field_eq_ofNat, Acc.field_eq_ofNat, pow_zero,
    Nat.div_one]
  rfl

/-- The outcome, written, is what the statements call the result. -/
theorem writeMac_stepped (z : MacDest) (r : Acc) (s : State) :
    (writeMac z r s).stepped = macResult z s r := by
  cases z with
  | mr => rw [writeMac, macAstat_eq, Bank.withMr_eq]; rfl
  | mf => rw [writeMac, macAstat_eq, Acc.field_eq_ofNat]; rfl

/-- A MAC form whose condition holds and whose expression gives `r`. -/
theorem macIf_result {c : Cond} {s s1 : State} (hw : When c s s1) {z : MacDest} {f : State → Acc}
    {r : Acc} (hf : f s1 = r) : macIf c z f s = .next (macResult z s1 r) := by
  rw [macIf_taken hw.1 hw.2, hf, writeMac_stepped]

/-! ### The adder in integers (R222, R224 to R226) -/

/-- MR is the accumulator's integer in 40 bits (R33). -/
theorem mr_eq_acc (s : State) : s.bank.mr = acc (mrInt s) := by
  have h0 := Word.toNat_lt s.bank.mr0
  have h1 := Word.toNat_lt s.bank.mr1
  have h2 : s.bank.mr2.toNat < 256 := s.bank.mr2.isLt
  have hmr : s.bank.mr.toNat =
      s.bank.mr2.toNat * 4294967296 + s.bank.mr1.toNat * 65536 + s.bank.mr0.toNat := by
    rw [Bank.mr, BitVec.toNat_append, BitVec.toNat_append,
      ← Nat.shiftLeft_add_eq_or_of_lt s.bank.mr1.isLt,
      ← Nat.shiftLeft_add_eq_or_of_lt s.bank.mr0.isLt, Nat.shiftLeft_eq, Nat.shiftLeft_eq,
      two_pow_W]
    omega
  refine BitVec.eq_of_toNat_eq ?_
  rw [hmr, acc, BitVec.toNat_ofInt, mrInt, BitVec.toInt_eq_toNat_cond, two_pow_MR2W, two_pow_MRW]
  split <;> omega

/-- The accumulator is negative where the top bit of MR2 is set (R229). -/
theorem mr2_msb_eq (s : State) : s.bank.mr2.msb = decide (mrInt s < 0) := by
  have h0 := Word.toNat_lt s.bank.mr0
  have h1 := Word.toNat_lt s.bank.mr1
  rw [BitVec.msb_eq_toInt, mrInt, decide_eq_decide]
  omega

/-- What the adder gives for the product `p`, as an exact integer. -/
def adderInt (n : MacKind) (s : State) (p : Int) : Int :=
  match n with
  | .mul => p
  | .mac => mrInt s + p
  | .msub => mrInt s - p

/-- The adder of 40 bits is the integers' modulo 2^40. -/
theorem accumulate_acc (n : MacKind) (p : Int) (s : State) :
    accumulate n (acc p) s = acc (adderInt n s p) := by
  cases n with
  | mul => rfl
  | mac => rw [accumulate, mr_eq_acc, adderInt, acc, acc, acc, BitVec.ofInt_add]
  | msub =>
    rw [accumulate, mr_eq_acc, adderInt, acc, acc, acc, BitVec.sub_eq_add_neg, Int.sub_eq_add_neg,
      BitVec.ofInt_add, BitVec.ofInt_neg]

/-- The exact product of two operands under a modifier, placed by M_MODE. -/
def productInt (m : MacMod) (u v : Word) (s : State) : Int :=
  placed s (factor u (MacMod.xSigned m) * factor v (MacMod.ySigned m))

theorem macProduct_eq_acc (m : MacMod) (u v : Word) (s : State) :
    macProduct m u v s = acc (productInt m u v s) := rfl

/-! ### The forms whose condition holds (R220) -/

section forms
variable {c : Cond} {s s1 : State} (hw : When c s s1) (z : MacDest) (n : MacKind)
include hw

/-- The form multiplies `u` and `v` under `m`, sends the product through the adder, and rounds under
RND. -/
theorem macIf_product (m : MacMod) (u v : Word) {f : State → Acc}
    (hf : f s1 = roundFor m (accumulate n (macProduct m u v s1) s1)) :
    macIf c z f s =
      .next (macResult z s1 (roundFor m (acc (adderInt n s1 (productInt m u v s1))))) := by
  rw [macIf_result hw hf, macProduct_eq_acc, accumulate_acc]

/-- The product forms (R224 to R226, R230). -/
theorem exec_prod (m : MacMod) (x : XMac) (y : YMac) :
    exec ((MacFn.prod n m x y).instr z c) s =
      .next (macResult z s1
        (roundFor m (acc (adderInt n s1 (productInt m (xMac x s1) (yMac y s1) s1))))) := by
  rw [exec_macInstr]
  exact macIf_product hw z n m _ _ rfl

/-- The squaring forms are product forms with both operands the X operand (R221). -/
theorem exec_square (m : MacMod) (x : XMac) :
    exec (.square z n m x c) s =
      .next (macResult z s1
        (roundFor m (acc (adderInt n s1 (productInt m (xMac x s1) (xMac x s1) s1))))) :=
  macIf_product hw z n m _ _ rfl

end forms

/-- Settles O26: the three adder operations under the four modifiers without rounding. -/
theorem productForms : Obligations.ProductForms := by
  unfold Obligations.ProductForms
  intro z x y c s s1 hw u v r ss su us uu
  have hform (n : MacKind) (m : MacMod) := exec_prod hw z n m x y
  exact ⟨hform .mul .ss, hform .mul .su, hform .mul .us, hform .mul .uu,
    hform .mac .ss, hform .mac .su, hform .mac .us, hform .mac .uu,
    hform .msub .ss, hform .msub .su, hform .msub .us, hform .msub .uu⟩

/-- Settles O27: the adder operations under RND, and MR itself rounded. -/
theorem roundingForms : Obligations.RoundingForms := by
  unfold Obligations.RoundingForms
  intro z x y c s s1 hw p r
  have hform (n : MacKind) := exec_prod hw z n .rnd x y
  have hmr : evalMac .mrRnd s1 = Config.macRound (acc (mrInt s1)) :=
    congrArg Config.macRound (mr_eq_acc s1)
  exact ⟨hform .mul, hform .mac, hform .msub, macIf_result hw hmr⟩

/-- Settles O28: the three adder operations under the three modifiers of a square. -/
theorem squareForms : Obligations.SquareForms := by
  unfold Obligations.SquareForms
  intro z x c s s1 hw ss uu rnd
  have hform (n : MacKind) (m : MacMod) := exec_square hw z n m x
  exact ⟨hform .mul .ss, hform .mac .ss, hform .msub .ss,
    hform .mul .uu, hform .mac .uu, hform .msub .uu,
    hform .mul .rnd, hform .mac .rnd, hform .msub .rnd⟩

/-! ### CLEAR, TRANSFER and SATURATE (R227 to R229) -/

@[simp] theorem saturateMr_pc (s : State) : (saturateMr s).pc = s.pc := by
  unfold saturateMr
  split <;> simp

@[simp] theorem saturateMr_stk (s : State) : (saturateMr s).stk = s.stk := by
  unfold saturateMr
  split <;> simp

/-- What SAT MR leaves: under MV the end of the 32-bit range on the accumulator's side of 0. -/
theorem saturateMr_eq (s : State) :
    saturateMr s =
      if s.astat.getLsbD 6 = false then s
      else if mrInt s < 0 then
        s.setBank { s.bank with mr2 := 0xFF#8, mr1 := 0x8000#16, mr0 := 0x0000#16 }
      else s.setBank { s.bank with mr2 := 0x00#8, mr1 := 0x7FFF#16, mr0 := 0xFFFF#16 } := by
  have hmv : s.flag .mv = s.astat.getLsbD 6 := rfl
  rw [saturateMr, hmv, mr2_msb_eq]
  cases s.astat.getLsbD 6 with
  | false => rfl
  | true =>
    by_cases hneg : mrInt s < 0
    · simp only [hneg]
      rfl
    · simp only [hneg]
      rfl

/-- Settles O29: SAT MR keeps the pc and the stacks, so the next pc is `pc + 1`. -/
theorem clearTransferSaturate : Obligations.ClearTransferSaturate := by
  unfold Obligations.ClearTransferSaturate
  intro z c s s1 hw
  refine ⟨macIf_result hw rfl, macIf_result hw (mr_eq_acc s1), ?_⟩
  calc exec .satMr s
    _ = .next (saturateMr s).stepped :=
      sequential_ok hw.2 (saturateMr_pc s) (congrArg Stacks.loop (saturateMr_stk s))
    _ = _ := by rw [saturateMr_eq, apply_ite State.stepped, apply_ite State.stepped]

end Sys2Proof.Machine
end

section
/-! PROOFS of the statements about the Shifter (spec/43_shifter.md). The model scales an integer by
a power of two, rounds it down and cuts the result into SR1 and SR0; the statements shift a 32-bit
vector and write quotients. The shift, the write of SR and the write of SS are each told once in their
terms. -/

namespace Sys2Proof.Machine

open Sys2Proof.Claims

/-! ### The shift as a shift of 32 bits (R252) -/

theorem scale_of_nonneg (v : Int) {n : Int} (h : 0 ≤ n) : scale v n = v * 2 ^ n.toNat := if_pos h

theorem scale_of_neg (v : Int) {n : Int} (h : ¬ 0 ≤ n) : scale v n = v / 2 ^ (-n).toNat := if_neg h

/-- To double an integer `k` times is to shift its bits left by `k`, whatever the width. -/
theorem ofInt_mul_two_pow {w : Nat} (v : Int) (k : Nat) :
    BitVec.ofInt w (v * 2 ^ k) = BitVec.ofInt w v <<< k := by
  have hpow : BitVec.ofInt w (2 ^ k) = BitVec.twoPow w k := by
    apply BitVec.eq_of_toNat_eq
    rw [BitVec.toNat_twoPow, BitVec.toNat_ofInt]
    exact_mod_cast Int.toNat_natCast (2 ^ k % 2 ^ w)
  rw [BitVec.ofInt_mul, hpow, ← BitVec.shiftLeft_eq_mul_twoPow]

/-- The operand in 32 bits, extended as it is signed. -/
theorem ofInt_operand (v : Word) (signed : Bool) :
    BitVec.ofInt Config.SRW (if signed then v.toInt else v.toNat) =
      if signed then v.signExtend 32 else v.setWidth 32 := by
  cases signed with
  | true => rfl
  | false => exact (BitVec.ofInt_natCast 32 v.toNat).trans (BitVec.ofNat_toNat 32 v)

/-- A signed operand halved `k` times, rounded down, is its sign extension shifted right
arithmetically. -/
theorem ofInt_toInt_div_two_pow (v : Word) (k : Nat) :
    BitVec.ofInt Config.SRW (v.toInt / 2 ^ k) = (v.signExtend 32).sshiftRight k := by
  rw [BitVec.sshiftRight, BitVec.toInt_signExtend_of_le (by decide), Int.shiftRight_eq_div_pow]
  norm_cast

/-- An unsigned operand halved `k` times, rounded down, is its zero extension shifted right
logically. -/
theorem ofInt_toNat_div_two_pow (v : Word) (k : Nat) :
    BitVec.ofInt Config.SRW (v.toNat / 2 ^ k) = v.setWidth 32 >>> k := by
  have hwide : (v.setWidth 32).toNat = v.toNat := BitVec.toNat_setWidth_of_le (by decide)
  rw [← BitVec.setWidth_eq (v.setWidth 32 >>> k), ← BitVec.ofNat_toNat, BitVec.toNat_ushiftRight,
    hwide, Nat.shiftRight_eq_div_pow, ← BitVec.ofInt_natCast]
  norm_cast

/-- `shift32`: left where the amount, with 16 for HI, is not negative, else right by its magnitude,
arithmetically where the operand is signed. -/
theorem shift32_eq_shifted (v : Word) (amt : Int) (h : Half) (signed : Bool) :
    shift32 v amt h signed = shifted v amt h signed := by
  rw [shift32, shifted]
  generalize amt + (if h = .hi then (16 : Int) else 0) = n
  by_cases hn : 0 ≤ n
  · rw [scale_of_nonneg _ hn, if_pos hn, ofInt_mul_two_pow, ofInt_operand]
  · rw [scale_of_neg _ hn, if_neg hn]
    cases signed with
    | true => exact ofInt_toInt_div_two_pow v _
    | false => exact ofInt_toNat_div_two_pow v _

/-! ### What a form writes (R250, R256) -/

/-- What goes to SR1 as a quotient of the result (R34). -/
theorem srHigh_eq_ofNat (r : BitVec Config.SRW) :
    r.extractLsb' Config.W Config.W = BitVec.ofNat 16 (r.toNat / 2 ^ 16) := by
  rw [BitVec.extractLsb', Nat.shiftRight_eq_div_pow]

/-- The 32-bit result, written to SR or ORed into it, is what the statements call the result. -/
theorem writeSr_stepped (o : Bool) (r : BitVec Config.SRW) (s : State) :
    (writeSr o r s).stepped = srResult o s r := by
  cases o with
  | false =>
    simp only [writeSr, Bank.withSr, srHigh_eq_ofNat]
    rfl
  | true =>
    simp only [writeSr, if_true, Bank.withSr_or, srHigh_eq_ofNat]
    rfl

/-- SS is the top bit of ASTAT (R26, R256). -/
theorem withFlag_ss (a : BitVec 8) (b : Bool) :
    withFlag a .ss b = BitVec.ofBool b ++ a.extractLsb' 0 7 := by
  refine astat_ext fun f => ?_
  rw [flagOf_withFlag]
  cases f <;>
    simp only [flagOf, Flag.bit, BitVec.getLsbD_append, BitVec.getLsbD_extractLsb',
      BitVec.getLsbD_ofBool] <;> rfl

/-! ### The forms by SE, whose condition holds, and the forms by a constant -/

/-- A Shifter instruction whose condition holds runs its computation (R250). -/
theorem exec_shiftInstr_taken {c : Cond} {s s1 : State} (hw : When c s s1) (f : ShiftFn) :
    exec (f.instr c) s = .next (evalShift f s1 s1).stepped :=
  (exec_shiftInstr f c s).trans (shiftIf_taken hw.1 hw.2 f)

/-- A shift by SE, arithmetic, logical or normalizing, leaves its 32 bits in SR (R253 to R255). -/
theorem exec_shift {c : Cond} {s s1 : State} (hw : When c s s1) (n : ShiftKind) (o : Bool)
    (h : Half) (x : XShift) :
    exec ((ShiftFn.shift n o h x).instr c) s =
      .next (srResult o s1 (shiftBySe n h (xShift x s1) s1)) := by
  rw [exec_shiftInstr_taken hw, evalShift, writeSr_stepped]

/-- A write of SR by a form without a condition (R258, R259). -/
theorem sequential_writeSr {s : State} (hs : Straight s) (o : Bool) (r : BitVec Config.SRW) :
    sequential (.ok (writeSr o r s)) = .next (srResult o s r) := by
  rw [← writeSr_stepped]
  exact sequential_ok hs (s.setBank_pc _) (congrArg Stacks.loop (s.setBank_stk _))

/-- EXP of each mode leaves what `exp_fn` gives in SE and SS (R256). -/
theorem exec_exp {c : Cond} {s s1 : State} (hw : When c s s1) (m : ExpMode) (x : XShift) :
    let r := Config.expFn (xShift x s1) m s1.bank.se (s1.astat.getLsbD 7) (s1.astat.getLsbD 2)
    exec ((ShiftFn.exp m x).instr c) s =
      .next ((s1.setBank { s1.bank with se := r.1 }).setAstat
        (BitVec.ofBool r.2 ++ s1.astat.extractLsb' 0 7)).stepped := by
  rw [exec_shiftInstr_taken hw, evalShift, withFlag_ss]
  rfl

/-- Settles O30: `shift32` as a shift of 32 bits, by SE and by a constant. -/
theorem shiftForms : Obligations.ShiftForms := by
  unfold Obligations.ShiftForms
  intro o x h e c s s1 hw
  have hbySe (n : ShiftKind) := exec_shift hw n o h x
  have hs : Straight s := hw.2
  simp only [← shift32_eq_shifted]
  exact ⟨hbySe .ashift, hbySe .lshift, sequential_writeSr hs o _, sequential_writeSr hs o _⟩

/-- Settles O31: NORM is a shift by SE, EXP one computation in three modes. -/
theorem normExpExpadj : Obligations.NormExpExpadj := by
  unfold Obligations.NormExpExpadj
  intro o x h c s s1 hw b f after
  exact ⟨exec_shift hw .norm o h x, exec_exp hw .hi x, exec_exp hw .hix x, exec_exp hw .lo x,
    exec_shiftInstr_taken hw (.expadj x)⟩

end Sys2Proof.Machine
end

section
/-! PROOFS of the statements about MOVE (spec/44_move.md R280 to R291). What a register's read gives and
what its write leaves are told once in the statements' terms; a MOVE into a register is the write of the
value it reads, wherever that comes from, and the memory forms are one access and one index update. -/

namespace Sys2Proof.Machine

open Sys2Proof.Claims

/-! ### What a register's read gives (R281) -/

/-- SSTAT as the sum of its empty bits (R29). -/
theorem sstat_toNat (s : State) :
    (sstat s).toNat = (if s.stk.pc = [] then 1 else 0) + (if s.stk.cntr = [] then 4 else 0) +
      (if s.stk.sts = [] then 16 else 0) + (if s.stk.loop = [] then 64 else 0) := by
  simp only [sstat, List.isEmpty_iff]
  split <;> split <;> split <;> split <;> rfl

/-- A plain read gives the register's 16 bits and changes nothing. -/
theorem readReg_plain {r : Reg} (hr : plainSource r = true) (s : State) :
    readReg r s = .ok (value s r, s) := by
  cases r with
  | dreg d => rw [value_dreg]; rfl
  | i | l | astat | mstat | icntl | cntr | px => simp only [readReg, value, BitVec.ofNat_toNat]
  | sstat => simp only [readReg, value, ← sstat_toNat, BitVec.ofNat_toNat]
  | m | imask | sb | tx0 | tx1 => rfl
  | rx0 | rx1 | ifc | owrcntr => cases hr

theorem readReg_of_reads {r : Reg} {v : Word} {s u : State} (h : Reads r v s u) :
    readReg r s = .ok (v, u) := by
  obtain ⟨hr, rfl, rfl⟩ | ⟨rfl | rfl, rfl, rfl⟩ := h
  · exact readReg_plain hr _
  · rfl
  · rfl

/-! ### What a register's write leaves (R281, R291) -/

/-- The low bits of a value as a remainder. -/
theorem lowBits_eq_ofNat (n : Nat) (v : Word) : lowBits n v = BitVec.ofNat 16 (v.toNat % 2 ^ n) := by
  refine BitVec.eq_of_getLsbD_eq fun k hk => ?_
  have hk16 : k < 16 := hk
  rw [getLsbD_lowBits n v k hk, BitVec.getLsbD_ofNat, Nat.testBit_mod_two_pow, decide_eq_true hk16,
    Bool.true_and]
  rfl

/-- A plain write leaves the one register written. -/
theorem writeReg_plain {d : Reg} (hd : plainDest d = true) (v : Word) (s : State) :
    writeReg d v s = .ok (written v s d) := by
  cases d with
  | dreg d => rw [written_dreg]; rfl
  | imask => simp only [writeReg, written, lowBits_eq_ofNat]
  | i | m | l | astat | mstat | icntl | sb | px | owrcntr =>
    simp only [writeReg, written, BitVec.ofNat_toNat]
  | rx0 | rx1 | tx0 | tx1 => rfl
  | sstat | ifc | cntr => cases hd

@[simp] theorem written_pc (v : Word) (s : State) (d : Reg) : (written v s d).pc = s.pc := by
  cases d with
  | dreg d => rw [written_dreg, wrD_pc]
  | sb => exact s.setBank_pc _
  | _ => rfl

@[simp] theorem written_stk (v : Word) (s : State) (d : Reg) : (written v s d).stk = s.stk := by
  cases d with
  | dreg d => rw [written_dreg, wrD_stk]
  | sb => exact s.setBank_stk _
  | _ => rfl

/-! ### A MOVE into a register (R282, R283, R288) -/

/-- A MOVE is the write of the value it reads, in the state after the read. -/
theorem exec_of_moves {i : Instr} {d : Reg} {v : Word} {s u : State} (h : Moves i d v s u) :
    exec i s = sequential (writeReg d v u) := by
  obtain ⟨r, rfl, hr⟩ | ⟨a, rfl, hdm, rfl⟩ | ⟨n, rfl, rfl, rfl⟩ := h
  · show sequential (moveReg d r s) = _
    rw [moveReg, readReg_of_reads hr, ok_bind]
  · show sequential (loadDirect d a u) = _
    rw [loadDirect, readDm_ok.mpr hdm, ok_bind]
  · rfl

/-- The read of a MOVE changes at most `draws` (R36). -/
theorem reads_state_eq {r : Reg} {v : Word} {s u : State} (h : Reads r v s u) :
    u = s ∨ u = s.setDraws (s.draws + 1) := readReg_same (readReg_of_reads h)

theorem moves_state_eq {i : Instr} {d : Reg} {v : Word} {s u : State} (h : Moves i d v s u) :
    u = s ∨ u = s.setDraws (s.draws + 1) := by
  obtain ⟨r, -, hr⟩ | ⟨_, -, -, hu⟩ | ⟨_, -, -, hu⟩ := h
  · exact reads_state_eq hr
  · exact .inl hu
  · exact .inl hu

/-- A move that answers `u`, with the `pc` and the stacks of `s`, is followed by `pc + 1` (R300). -/
theorem sequential_move {e : Eff State} {s u : State} (hs : Straight s) (he : e = .ok u)
    (hpc : u.pc = s.pc) (hstk : u.stk = s.stk) : sequential e = .next u.stepped := by
  rw [he]
  exact sequential_ok hs hpc (congrArg Stacks.loop hstk)

/-- Settles O32: the write of the value read, after a read that keeps `pc` and the stacks. -/
theorem moveIntoRegister : Obligations.MoveIntoRegister := by
  unfold Obligations.MoveIntoRegister
  intro i d e v k s u hs
  refine ⟨fun hd h => ?_, ?_⟩
  · have hu : Straight u := by obtain rfl | rfl := moves_state_eq h <;> exact hs
    rw [exec_of_moves h]
    exact sequential_move hu (writeReg_plain hd v u) (written_pc v u d) (written_stk v u d)
  · have hwrite : writeReg (.dreg e) k s = .ok (written k s (.dreg e)) := writeReg_plain rfl k s
    exact sequential_move hs hwrite (written_pc k s _) (written_stk k s _)

/-- On a full counter stack the count in CNTR cannot be saved (R31, R37). -/
theorem writeCntr_full {s : State} (hl : s.cntr.loaded = true)
    (hfull : s.params.cntrDepth ≤ s.stk.cntr.length) (v : Addr) :
    writeCntr v s = .error (.fault (.stackOverflow .cntr)) := by
  rw [writeCntr, if_pos hl, pushCntr, if_neg (Nat.not_lt.mpr hfull), error_bind]

/-- An assignment of `v` to CNTR from the state `u`, by what CNTR and its stack hold (R31, R291 (b)). -/
theorem sequential_writeCntr {u : State} (hu : Straight u) (v : Addr) :
    let t := (u.setCntr { value := v, loaded := true }).stepped
    (u.cntr.loaded = false → sequential (writeCntr v u) = .next t) ∧
    (u.cntr.loaded = true → u.stk.cntr.length < u.params.cntrDepth →
      sequential (writeCntr v u) =
        .next (t.setStk { u.stk with cntr := u.cntr.value :: u.stk.cntr })) ∧
    (u.cntr.loaded = true → u.params.cntrDepth ≤ u.stk.cntr.length →
      sequential (writeCntr v u) = .fault (.stackOverflow .cntr)) := by
  refine ⟨fun hl => ?_, fun hl hroom => ?_, fun hl hfull => ?_⟩
  · rw [writeCntr_ok.mpr (.inl ⟨hl, rfl⟩)]
    exact sequential_ok hu rfl rfl
  · rw [writeCntr_ok.mpr (.inr ⟨hl, hroom, rfl⟩)]
    exact sequential_ok hu rfl rfl
  · rw [writeCntr_full hl hfull]
    rfl

/-- Settles O33: by what CNTR and its stack hold, which the read leaves alone. -/
theorem moveIntoCounter : Obligations.MoveIntoCounter := by
  unfold Obligations.MoveIntoCounter
  intro i v s u hs h
  have hexec : exec i s = sequential (writeCntr (BitVec.ofNat 14 v.toNat) u) := by
    rw [exec_of_moves h, writeReg, BitVec.ofNat_toNat]
  rw [hexec]
  obtain rfl | rfl := moves_state_eq h
  · exact sequential_writeCntr hs _
  · exact sequential_writeCntr (u := s.setDraws (s.draws + 1)) hs _

/-! ### Loads and stores (R284 to R287, R289, R290) -/

section accesses
variable {s : State} {p : Pair}

/-- A load of the DM word at the old index (R284). -/
theorem loadDm_of_hasDm {v : Word} (h : HasDm s (dmEa p s) v) (d : DReg) :
    loadDm d p s = .ok (written v (postModify p s) (.dreg d)) := by
  rw [written_dreg]
  exact loadDm_ok.mpr ⟨v, readDm_ok.mpr h, rfl⟩

/-- A store at the old index in DM (R285, R286). -/
theorem storeDm_of_ramDm (h : RamDm s (dmEa p s)) (v : Word) :
    storeDm p v s = .ok (postModify p (storedDm s (dmEa p s) v)) :=
  storeDm_ok.mpr ⟨_, writeDm_ok.mpr ⟨h, rfl⟩, rfl⟩

/-- A store of a register at a constant address in DM (R287). -/
theorem storeDirect_of_ramDm {a : Addr} {r : Reg} {v : Word} {u : State} (h : RamDm s a)
    (hr : Reads r v s u) : storeDirect a r s = .ok (storedDm u a v) := by
  have hu : RamDm u a := by obtain rfl | rfl := reads_state_eq hr <;> exact h
  rw [storeDirect, readReg_of_reads hr, ok_bind]
  exact writeDm_ok.mpr ⟨hu, rfl⟩

/-- A load of the PM word at the old index (R289). -/
theorem loadPm_of_hasPm {w : PmBits} (h : HasPm s (s.idx.get p.i) w) (d : DReg) :
    loadPm d p s = .ok (fromPm d w (postModify p s)) := by
  rw [fromPm_eq_takePmWord]
  exact loadPm_ok.mpr ⟨w, readPm_of_hasPm h, rfl⟩

/-- A store at the old index in PM, over PX (R290). -/
theorem storePm_of_ramPm (h : RamPm s (s.idx.get p.i)) (v : Word) :
    storePm p v s = .ok (postModify p (storedPm s (s.idx.get p.i) (overPx s v))) := by
  rw [← append_px_eq_overPx]
  exact storePm_ok.mpr ⟨_, writeCell_ok.mpr ⟨h, rfl⟩, rfl⟩

end accesses

/-- Settles O35: the four forms by their access, the frame by the law of a memory's store. -/
theorem dmMoves : Obligations.DmMoves := by
  unfold Obligations.DmMoves
  intro d r q p a v k s u hs
  refine ⟨fun hv => ?_, fun hram => ⟨?_, ?_⟩, fun hram hr => ?_, fun b => ⟨?_, ?_⟩⟩
  · exact sequential_move hs (loadDm_of_hasDm hv d) (written_pc _ _ _) (written_stk _ _ _)
  · rw [value_dreg]
    exact sequential_move hs (storeDm_of_ramDm hram (rdD r s)) rfl rfl
  · exact sequential_move hs (storeDm_of_ramDm hram k) rfl rfl
  · have hstore := storeDirect_of_ramDm hram hr
    obtain rfl | rfl := reads_state_eq hr <;> exact sequential_move hs hstore rfl rfl
  · exact fun hb => lookup_store_of_ne hb _ _
  · exact fun hb => lookup_store_of_ne hb _ _

/-- Settles O36: the two forms by their access, the frame by the law of a memory's store. -/
theorem pmMoves : Obligations.PmMoves := by
  unfold Obligations.PmMoves
  intro d r p w s hs
  refine ⟨fun hw => ?_, fun hram => ?_, fun b hb => lookup_store_of_ne hb _ _⟩
  · exact sequential_move hs (loadPm_of_hasPm hw d) (written_pc _ _ _) (written_stk _ _ _)
  · rw [value_dreg]
    exact sequential_move hs (storePm_of_ramPm hram (rdD r s)) rfl rfl

end Sys2Proof.Machine
end

section
/-! PROOFS of the statements about program flow (spec/45_program_flow.md R301 to R311): the counter's test,
the control transfers, DO and IDLE. For each shared operation a lemma says what it answers in each case of
its definition, the stops (R37, R25) too; the instructions are read off those. -/

namespace Sys2Proof.Machine

open Sys2Proof.Claims

/-! ### The counter's test (R311) -/

section counter
variable {s : State}

/-- A count above 1 goes down by 1. -/
theorem counterTest_counts (h : 1 < s.cntr.value.toNat) :
    counterTest s = .ok (true, s.setCntr
      { s.cntr with value := BitVec.ofNat 14 (s.cntr.value.toNat - 1) }) := by
  have hzero : s.cntr.value ≠ 0 := fun e => by rw [e] at h; exact absurd h (by decide)
  have hone : s.cntr.value ≠ 1 := fun e => by rw [e] at h; exact absurd h (by decide)
  have hpred : s.cntr.value - 1 = BitVec.ofNat 14 (s.cntr.value.toNat - 1) := by
    rw [← BitVec.ofNat_sub_ofNat_of_le s.cntr.value.toNat 1 (by decide) h.le, BitVec.ofNat_toNat]
    simp
  exact counterTest_ok.mpr ⟨hzero, .inl ⟨hone, rfl, by rw [hpred]⟩⟩

theorem cntr_eq_one (h : s.cntr.value.toNat = 1) : s.cntr.value = 1 := BitVec.eq_of_toNat_eq h

/-- A count of 1 expires, and the saved count comes back. -/
theorem counterTest_restores {n : Addr} {saved : List Addr} (h : s.cntr.value.toNat = 1)
    (hsaved : s.stk.cntr = n :: saved) :
    counterTest s = .ok (false,
      (s.setStk { s.stk with cntr := saved }).setCntr { value := n, loaded := true }) := by
  have hone := cntr_eq_one h
  refine counterTest_ok.mpr ⟨fun e => ?_, .inr (.inr ⟨hone, rfl, n, saved, hsaved, rfl⟩)⟩
  exact absurd (hone.symm.trans e) (by decide)

/-- With no count saved CNTR is left a free value, which is none (log 11). -/
theorem counterTest_empties (h : s.cntr.value.toNat = 1) (hsaved : s.stk.cntr = []) :
    counterTest s = .ok (false,
      (s.setCntr { value := Config.freeCntr s.draws, loaded := false }).setDraws (s.draws + 1)) := by
  have hone := cntr_eq_one h
  refine counterTest_ok.mpr ⟨fun e => ?_, .inr (.inl ⟨hone, rfl, hsaved, rfl⟩)⟩
  exact absurd (hone.symm.trans e) (by decide)

/-- A count of 0 is refused. -/
theorem counterTest_zero (h : s.cntr.value.toNat = 0) :
    counterTest s = .error (.refused .counterTestZero) :=
  if_pos (BitVec.eq_of_toNat_eq h)

end counter

/-- Settles O12: the counter's test, case by case. -/
theorem counterCondition : Obligations.CounterCondition := by
  unfold Obligations.CounterCondition
  intro s
  rw [evalCond_notCe]
  refine ⟨counterTest_counts, fun a rest => counterTest_restores, fun h hsaved => ?_,
    counterTest_zero⟩
  exact ⟨_, counterTest_empties h hsaved, rfl, rfl⟩

/-! ### The stops of the stacks (R37) -/

section stops
variable {s : State}

theorem pushPc_full (h : s.params.pcDepth ≤ s.stk.pc.length) (a : Addr) :
    pushPc a s = .error (.fault (.stackOverflow .pc)) := if_neg (Nat.not_lt.mpr h)

theorem pushLoop_full (h : s.params.loopDepth ≤ s.stk.loop.length) (e : LoopEntry) :
    pushLoop e s = .error (.fault (.stackOverflow .loop)) := if_neg (Nat.not_lt.mpr h)

theorem pushSts_full (h : s.params.stsDepth ≤ s.stk.sts.length) :
    pushSts s = .error (.fault (.stackOverflow .sts)) := if_neg (Nat.not_lt.mpr h)

theorem popSts_empty (h : s.stk.sts = []) : popSts s = .error (.fault (.stackUnderflow .sts)) := by
  rw [popSts, h]

theorem popCntr_empty (h : s.stk.cntr = []) :
    popCntr s = .error (.fault (.stackUnderflow .cntr)) := by
  rw [popCntr, h]

theorem dropPc_empty (h : s.stk.pc = []) : dropPc s = .error (.fault (.stackUnderflow .pc)) := by
  rw [dropPc, takePc, h]
  rfl

theorem dropLoop_empty (h : s.stk.loop = []) :
    dropLoop s = .error (.fault (.stackUnderflow .loop)) := by
  rw [dropLoop, h]

/-! ### What the control transfers answer (R300 to R307) -/

theorem takeIf_true {c : Cond} {s1 : State} (h : evalCond c s = .ok (true, s1))
    (f : State → Eff State) : takeIf c f s = f s1 := by
  rw [takeIf, h]
  rfl

theorem fallThrough_last (h : s.pc = 0x3FFF#14) : fallThrough s = .error (.fault .pcWrap) := by
  rw [fallThrough, pcNext_last h]
  rfl

/-- A CALL faults where no address follows it (R25). -/
theorem callTo_last (h : s.pc = 0x3FFF#14) (a : Addr) : callTo a s = .error (.fault .pcWrap) := by
  rw [callTo, pcNext_last h]
  rfl

/-- A CALL faults on a full PC stack (R37). -/
theorem callTo_full (hlast : s.pc ≠ 0x3FFF#14) (h : s.params.pcDepth ≤ s.stk.pc.length) (a : Addr) :
    callTo a s = .error (.fault (.stackOverflow .pc)) := by
  rw [callTo, pcNext_of_ne hlast, ok_bind, pushPc_full h]
  rfl

/-- An address with one after it is not the last (R25). -/
theorem ne_last_of_lt {a b : Addr} (h : a.toNat < b.toNat) : a ≠ 0x3FFF#14 := fun e => by
  rw [e] at h
  exact absurd (Addr.toNat_lt b) (Nat.not_lt.mpr h)

/-- The two pushes of a DO whose end is after it and is no other loop's (R307). -/
theorem startLoop_eq {a : Addr} (hafter : s.pc.toNat < a.toNat)
    (hfresh : ∀ e ∈ s.stk.loop, e.last ≠ a) (t : Term) :
    startLoop a t s = (do
      let u ← pushPc (s.pc + 1) s
      let v ← pushLoop ⟨a, t⟩ u
      .ok (v.setPc (s.pc + 1))) := by
  have hnone : ¬ s.stk.loop.any (fun e => e.last == a) = true := fun h => by
    obtain ⟨e, he, hea⟩ := List.any_eq_true.mp h
    exact hfresh e he (eq_of_beq hea)
  rw [startLoop, if_neg (Nat.not_le.mpr hafter), if_neg hnone,
    pcNext_of_ne (ne_last_of_lt hafter), ok_bind]

theorem startLoop_refused {a : Addr} (h : a.toNat ≤ s.pc.toNat) (t : Term) :
    startLoop a t s = .error (.refused .loopEndNotAfterDo) := if_pos h

end stops

/-- The model's index register of an indirect transfer is the statements' (R301). -/
theorem indirectTarget_eq (i : DagIdx) (s : State) :
    indirectTarget i s = s.idx.get ⟨i.val + 4, by omega⟩ := by
  rw [indirectTarget]
  congr 2
  exact Nat.add_comm 4 i.val

/-! ### JUMP and CALL (R301 to R304) -/

/-- Away from a loop's end a transfer whose condition holds has the outcome of its effect. -/
theorem transfer_takeIf_true {c : Cond} {s s1 : State} (h : evalCond c s = .ok (true, s1))
    (hopen : ¬ AtLoopEnd s) (f : State → Eff State) :
    transfer (takeIf c f s) s = finish (f s1) := by
  rw [transfer_open hopen, takeIf_true h]

/-- Settles O38: JUMP writes the pc; CALL pushes first, with the stops of `callTo`. -/
theorem jumpAndCall : Obligations.JumpAndCall := by
  unfold Obligations.JumpAndCall
  intro a i c s s1 hc hopen
  have htaken := transfer_takeIf_true hc hopen
  have hsame := evalCond_same hc
  have hcall (b : Addr) : exec (.callAddr b c) s = finish (callTo b s1) := htaken _
  have hind : exec (.callInd i c) s = finish (callTo (s1.idx.get ⟨i.val + 4, by omega⟩) s1) := by
    rw [← indirectTarget_eq]
    exact htaken _
  refine ⟨htaken _, ?_, fun hlast hroom => ?_, fun hlast hfull => ?_, fun hlast => ?_⟩
  · rw [← indirectTarget_eq]
    exact htaken _
  · rw [← hsame.pc] at hlast ⊢
    rw [← hsame.pcStack, ← hsame.params] at hroom
    rw [← hsame.pcStack, hcall, hind, finish_next, finish_next]
    exact ⟨callTo_ok.mpr ⟨hlast, hroom, rfl⟩, callTo_ok.mpr ⟨hlast, hroom, rfl⟩⟩
  · rw [← hsame.pc] at hlast
    rw [← hsame.pcStack, ← hsame.params] at hfull
    rw [hcall, hind, callTo_full hlast hfull, callTo_full hlast hfull]
    exact ⟨rfl, rfl⟩
  · rw [← hsame.pc] at hlast
    rw [hcall, hind, callTo_last hlast, callTo_last hlast]
    exact ⟨rfl, rfl⟩

/-- The test of a transfer on FLAG_IN, as the statements write it (R302). -/
theorem flagTest_iff (n x : Bool) :
    (x ^^ n) = true ↔ if n then x = false else x = true := by
  cases n <;> cases x <;> decide

/-- Away from a loop's end a transfer on FLAG_IN goes by the sample it draws (R302, R304). -/
theorem transfer_takeIfFlag_eq {s : State} (hopen : ¬ AtLoopEnd s) (n : Bool)
    (f : State → Eff State) :
    transfer (takeIfFlag n f s) s =
      finish (if (if n then Config.fiSample s.draws = false else Config.fiSample s.draws = true)
        then f (sampleFi s) else fallThrough (sampleFi s)) := by
  rw [transfer_open hopen, takeIfFlag]
  exact congrArg finish (if_congr (flagTest_iff n _) rfl rfl)

/-- Settles O39: by the sample, the branch or the following address. -/
theorem jumpAndCallOnFlag : Obligations.JumpAndCallOnFlag := by
  unfold Obligations.JumpAndCallOnFlag
  intro n a s hopen sample u taken
  have hjump := transfer_takeIfFlag_eq hopen n (fun u => .ok (u.setPc a))
  have hcall := transfer_takeIfFlag_eq hopen n (callTo a)
  change exec (.jumpFlag n a) s = _ at hjump
  change exec (.callFlag n a) s = _ at hcall
  refine ⟨fun htaken => ?_, fun hnot hlast => ?_, fun hnot hlast => ?_⟩
  · rw [if_pos htaken] at hjump hcall
    refine ⟨hjump, fun hlast hroom => ?_, fun hlast hfull => ?_, fun hlast => ?_⟩
    · rw [hcall, finish_next]
      exact callTo_ok.mpr ⟨hlast, hroom, rfl⟩
    · rw [hcall, callTo_full (s := sampleFi s) hlast hfull]
      rfl
    · rw [hcall, callTo_last (s := sampleFi s) hlast]
      rfl
  · rw [if_neg hnot] at hjump hcall
    rw [hjump, hcall, finish_next]
    exact ⟨fallThrough_ok.mpr ⟨hlast, rfl⟩, fallThrough_ok.mpr ⟨hlast, rfl⟩⟩
  · rw [if_neg hnot, fallThrough_last (s := sampleFi s) hlast] at hjump hcall
    exact ⟨hjump, hcall⟩

/-! ### DO and IDLE (R307 to R310) -/

/-- Settles O41: the two pushes one after the other, each with its stop. -/
theorem doUntil : Obligations.DoUntil := by
  unfold Obligations.DoUntil
  intro a t s hopen
  have hdo : exec (.doUntil a t) s = finish (startLoop a t s) := transfer_open hopen _
  rw [hdo]
  refine ⟨fun hafter hfresh => ?_, fun hbefore => ?_⟩
  · refine ⟨fun hpc hloop => ?_, fun hpc => ?_, fun hpc hloop => ?_⟩
    · rw [finish_next]
      exact startLoop_ok.mpr ⟨hafter, hfresh, ne_last_of_lt hafter, hpc, hloop, rfl⟩
    · rw [startLoop_eq hafter hfresh, pushPc_full hpc]
      rfl
    · have hfull := pushLoop_full (s := s.setStk { s.stk with pc := (s.pc + 1) :: s.stk.pc }) hloop
      rw [startLoop_eq hafter hfresh, pushPc_ok.mpr ⟨hpc, rfl⟩, ok_bind, hfull]
      rfl
  · rw [startLoop_refused hbefore]
    rfl

/-- Settles O42: IDLE by its effect; an idle core with nothing to deliver by its turn. -/
theorem idleWaits : Obligations.IdleWaits := by
  unfold Obligations.IdleWaits
  intro n s
  refine ⟨fun ⟨hlast, hopen⟩ => ?_, fun hidle henv hdel => ?_⟩
  · have hgo : transfer (goIdle s) s = .next (s.stepped.setIdle true) :=
      transfer_next.mpr ⟨hopen, goIdle_ok.mpr ⟨hlast, rfl⟩⟩
    exact ⟨hgo, fun hhas => needs_next.mpr ⟨hhas, hgo⟩⟩
  · simp only [step, turn, henv, coreTurn, hdel, hidle, if_true]

/-! ### A transfer at a loop's end (R308) -/

theorem transfer_at_loop_end {s : State} (h : AtLoopEnd s) (e : Eff State) :
    transfer e s = .refused .controlTransferAtLoopEnd := if_pos (atLoopEnd_iff.mpr h)

/-- Settles O43: every flow form is a `transfer`, whatever its effect is. -/
theorem flowAtLoopEndRefused : Obligations.FlowAtLoopEndRefused := by
  unfold Obligations.FlowAtLoopEndRefused
  intro i s hi hex hend
  have hrefused := transfer_at_loop_end hend
  cases i with
  | jumpAddr | jumpInd | jumpFlag | callAddr | callInd | callFlag | rts | rti | doUntil | idle =>
    exact hrefused _
  | idleN n =>
    obtain ⟨-, -, -, hidleN, -⟩ := hex
    change needs s.params.hasIdleN _ = _
    rw [hidleN n rfl, needs_true]
    exact hrefused _
  | _ => cases hi

end Sys2Proof.Machine
end

section
/-! PROOFS of the statements about what follows an instruction (spec/45_program_flow.md R300, R308,
spec/46_misc.md R342 to R346): the sequential pc, the loop-end check and the stack clauses. An instruction
that neither sets `pc` nor pops the PC or the loop stack is `sequential` on an effect that keeps them, and the
effect is the same whatever loops are on the stack, so its run at a loop's end is told by its run elsewhere. -/

namespace Sys2Proof.Machine

open Sys2Proof.Claims

/-! ### The loop-end check (R308, R311) -/

/-- The model's terminations are those of the table (R123). -/
theorem evalTerm_table {t : Term} (h : t ≠ .ce) (s : State) :
    evalTerm t s = .ok (termTruth s.astat t, s) := by
  cases t with
  | ce => exact absurd rfl h
  | forever => rfl
  | _ => exact congrArg (fun b => Except.ok (b, s)) (condHolds_eq_truth s.astat _)

/-- CE is the counter's test, negated (R311). -/
theorem evalTerm_ce {s u : State} {b : Bool} (h : counterTest s = .ok (b, u)) :
    evalTerm .ce s = .ok (!b, u) := by
  rw [evalTerm, h]
  rfl

/-- CE with a count of 0 is refused (R311). -/
theorem evalTerm_ce_zero {s : State} (h : s.cntr.value.toNat = 0) :
    evalTerm .ce s = .error (.refused .counterTestZero) := by
  rw [evalTerm, counterTest_zero h]
  rfl

/-- At a loop's end the check of the entry on top decides (R308). -/
theorem advance_at_loop_end {s : State} {e : LoopEntry} {rest : List LoopEntry}
    (hlast : s.pc ≠ 0x3FFF#14) (hloop : s.stk.loop = e :: rest) (hend : e.last = s.pc) :
    advance s = closeLoop (s.pc + 1) e.term s := by
  rw [advance, pcNext_of_ne hlast, ok_bind, hloop]
  exact if_pos hend

section closeLoop
variable {s u : State} {t : Term} {a next : Addr} {pcs : List Addr}

/-- A loop whose termination holds is left, its two entries popped. -/
theorem closeLoop_out {e : LoopEntry} {rest : List LoopEntry} (hterm : evalTerm t s = .ok (true, u))
    (hloop : u.stk.loop = e :: rest) (hpc : u.stk.pc = a :: pcs) :
    closeLoop next t s = .ok ((u.setStk { u.stk with pc := pcs, loop := rest }).setPc next) := by
  have hdrop : dropPc (u.setStk { u.stk with loop := rest }) =
      .ok (u.setStk { u.stk with pc := pcs, loop := rest }) := dropPc_ok.mpr ⟨a, pcs, hpc, rfl⟩
  simp only [closeLoop, hterm, ok_bind, if_true, dropLoop_ok.mpr ⟨e, rest, hloop, rfl⟩, hdrop]

/-- A loop whose termination does not hold goes round, to its first address. -/
theorem closeLoop_round (hterm : evalTerm t s = .ok (false, u)) (hpc : u.stk.pc = a :: pcs) :
    closeLoop next t s = .ok (u.setPc a) := by
  simp only [closeLoop, hterm, ok_bind, Bool.false_eq_true, if_false, hpc]

theorem closeLoop_error {x : Stop} (hterm : evalTerm t s = .error x) :
    closeLoop next t s = .error x := by
  rw [closeLoop, hterm]
  rfl

end closeLoop

/-- A termination that is not CE, by the table. -/
theorem closeLoop_table {s : State} {t : Term} {a next : Addr} {pcs : List Addr} {e : LoopEntry}
    {rest : List LoopEntry} (ht : t ≠ .ce) (hloop : s.stk.loop = e :: rest)
    (hpc : s.stk.pc = a :: pcs) :
    closeLoop next t s = .ok (if termTruth s.astat t then
      (s.setStk { s.stk with pc := pcs, loop := rest }).setPc next else s.setPc a) := by
  have hterm := evalTerm_table ht s
  cases h : termTruth s.astat t
  · rw [h] at hterm
    exact closeLoop_round hterm hpc
  · rw [h] at hterm
    exact closeLoop_out hterm hloop hpc

/-- At the end of a loop with such a termination an effect is followed by what the table says. -/
theorem sequential_table {s : State} {e : LoopEntry} {rest : List LoopEntry} {a : Addr}
    {pcs : List Addr} (hlast : s.pc ≠ 0x3FFF#14) (hloop : s.stk.loop = e :: rest)
    (hend : e.last = s.pc) (ht : e.term ≠ .ce) (hpc : s.stk.pc = a :: pcs) :
    sequential (.ok s) = .next (if termTruth s.astat e.term then
      (s.setStk { s.stk with pc := pcs, loop := rest }).stepped else s.setPc a) :=
  congrArg finish ((advance_at_loop_end hlast hloop hend).trans (closeLoop_table ht hloop hpc))

/-! ### The stack clauses (R342 to R346) -/

/-- A clause that answers and leaves `pc` and the loop stack is followed by `pc + 1`. -/
theorem sequential_clause {e : Eff State} {s u : State} (hs : Straight s) (he : e = .ok u)
    (hpc : u.pc = s.pc) (hloop : u.stk.loop = s.stk.loop) : sequential e = .next u.stepped := by
  rw [he]
  exact sequential_ok hs hpc hloop

/-- Settles O45: the stop of each clause, its effect, and for POP LOOP the check of the next entry. -/
theorem stackClauses : Obligations.StackClauses := by
  unfold Obligations.StackClauses
  intro s
  refine ⟨fun h => congrArg sequential (pushSts_full h), fun h => congrArg sequential (popSts_empty h),
    fun h => congrArg sequential (popCntr_empty h), fun h => congrArg sequential (dropPc_empty h),
    fun h => congrArg sequential (dropLoop_empty h), fun hs => ?_, fun hlast e rest hloop => ?_⟩
  · exact ⟨fun h => sequential_clause hs (pushSts_ok.mpr ⟨h, rfl⟩) rfl rfl,
      fun e rest h => sequential_clause hs (popSts_ok.mpr ⟨e, rest, h, rfl⟩) rfl rfl,
      fun n rest h => sequential_clause hs (popCntr_ok.mpr ⟨n, rest, h, rfl⟩) rfl rfl,
      fun a rest h => sequential_clause hs (dropPc_ok.mpr ⟨a, rest, h, rfl⟩) rfl rfl⟩
  · have hexec : exec .popLoop s = sequential (.ok (s.setStk { s.stk with loop := rest })) :=
      congrArg sequential (dropLoop_ok.mpr ⟨e, rest, hloop, rfl⟩)
    rw [hexec]
    refine ⟨fun hopen => sequential_straight ⟨hlast, ?_⟩, fun f below a pcs hrest hend ht hpc => ?_⟩
    · rintro ⟨f, below, hrest, hend⟩
      exact hopen f below hrest hend
    · subst hrest
      exact sequential_table (s := s.setStk { s.stk with loop := f :: below }) hlast rfl hend ht hpc

/-! ### The loop stack under an effect (R29, R308) -/

/-- `s` with another loop stack. -/
def State.withLoop (s : State) (l : List LoopEntry) : State := s.setStk { s.stk with loop := l }

/-- `u` stands where `s` does, with the PC stack and the loop stack of `s`. -/
structure SameFlow (s u : State) : Prop where
  pc : u.pc = s.pc
  pcStack : u.stk.pc = s.stk.pc
  loopStack : u.stk.loop = s.stk.loop

theorem SameFlow.trans {s u v : State} (h : SameFlow s u) (h2 : SameFlow u v) : SameFlow s v :=
  ⟨h2.pc.trans h.pc, h2.pcStack.trans h.pcStack, h2.loopStack.trans h.loopStack⟩

theorem SameFlow.of_stk {s u : State} (hpc : u.pc = s.pc) (hstk : u.stk = s.stk) : SameFlow s u :=
  ⟨hpc, congrArg Stacks.pc hstk, congrArg Stacks.loop hstk⟩

theorem SameButCounter.sameFlow {s u : State} (h : SameButCounter s u) : SameFlow s u :=
  ⟨h.pc, h.pcStack, h.loopStack⟩

/-- The operation leaves `pc`, the PC stack and the loop stack, and would leave the same of every other
field with another loop stack, empty where this one is: SSTAT shows no more of it (R29). -/
def KeepsLoop (f : State → Eff State) : Prop :=
  ∀ ⦃s u⦄, f s = .ok u → SameFlow s u ∧
    ∀ l, l.isEmpty = s.stk.loop.isEmpty → f (s.withLoop l) = .ok (u.withLoop l)

/-- An update that leaves `pc`, the PC stack and the loop stack, and does not look at the loop stack. -/
structure LoopFree (g : State → State) : Prop where
  same : ∀ s, SameFlow s (g s)
  swap : ∀ s l, g (s.withLoop l) = (g s).withLoop l

/-- A computation clause that does neither: it reads the first state and writes over the second. -/
structure LoopFreeClause (w : State → State → State) : Prop where
  same : ∀ s t, SameFlow t (w s t)
  swap : ∀ s t l, w (s.withLoop l) (t.withLoop l) = (w s t).withLoop l

theorem LoopFreeClause.alone {w : State → State → State} (h : LoopFreeClause w) :
    LoopFree (fun s => w s s) := ⟨fun s => h.same s s, fun s l => h.swap s s l⟩

theorem loopFree_id : LoopFree id := ⟨fun _ => ⟨rfl, rfl, rfl⟩, fun _ _ => rfl⟩

theorem LoopFree.keepsLoop {g : State → State} (h : LoopFree g) :
    KeepsLoop (fun s => .ok (g s)) := by
  intro s u e
  cases e
  exact ⟨h.same s, fun l _ => congrArg Except.ok (h.swap s l)⟩

/-! #### Sequences and conditions -/

theorem KeepsLoop.bind {f g : State → Eff State} (hf : KeepsLoop f) (hg : KeepsLoop g) :
    KeepsLoop (fun s => f s >>= g) := by
  intro s v h
  obtain ⟨u, hu, hv⟩ := bind_ok.mp h
  obtain ⟨hsu, hfl⟩ := hf hu
  obtain ⟨huv, hgl⟩ := hg hv
  exact ⟨hsu.trans huv, fun l hl => bind_ok.mpr ⟨_, hfl l hl, hgl l (hsu.loopStack ▸ hl)⟩⟩

theorem keepsLoop_optionally {b : Bool} {f : State → Eff State} (hf : b = true → KeepsLoop f) :
    KeepsLoop (optionally b f) := by
  cases b with
  | false => exact loopFree_id.keepsLoop
  | true => exact hf rfl

theorem counterTest_withLoop {s u : State} {b : Bool} (h : counterTest s = .ok (b, u))
    (l : List LoopEntry) : counterTest (s.withLoop l) = .ok (b, u.withLoop l) := by
  obtain ⟨hzero, h⟩ := counterTest_ok.mp h
  refine counterTest_ok.mpr ⟨hzero, ?_⟩
  obtain ⟨hone, hb, rfl⟩ | ⟨hone, hb, hsaved, rfl⟩ | ⟨hone, hb, a, rest, hsaved, rfl⟩ := h
  · exact .inl ⟨hone, hb, rfl⟩
  · exact .inr (.inl ⟨hone, hb, hsaved, rfl⟩)
  · exact .inr (.inr ⟨hone, hb, a, rest, hsaved, rfl⟩)

theorem evalCond_withLoop {c : Cond} {s u : State} {b : Bool} (h : evalCond c s = .ok (b, u))
    (l : List LoopEntry) : evalCond c (s.withLoop l) = .ok (b, u.withLoop l) := by
  by_cases hc : c = .notCe
  · subst hc
    exact counterTest_withLoop h l
  · rw [evalCond_pure hc] at h ⊢
    cases h
    rfl

theorem KeepsLoop.ifThen {f : State → Eff State} (hf : KeepsLoop f) (c : Cond) :
    KeepsLoop (ifThen c f) := by
  intro s v h
  obtain ⟨b, u, hc, h⟩ := ifThen_ok.mp h
  have hsu := (evalCond_same hc).sameFlow
  cases b with
  | false =>
    obtain rfl : v = u := h
    exact ⟨hsu, fun l _ => ifThen_ok.mpr ⟨false, _, evalCond_withLoop hc l, rfl⟩⟩
  | true =>
    obtain ⟨huv, hfl⟩ := hf h
    exact ⟨hsu.trans huv, fun l hl =>
      ifThen_ok.mpr ⟨true, _, evalCond_withLoop hc l, hfl l (hsu.loopStack ▸ hl)⟩⟩

/-! #### The computation units (R170, R220, R250) -/

theorem State.setBank_withLoop (s : State) (b : Bank) (l : List LoopEntry) :
    (s.withLoop l).setBank b = (s.setBank b).withLoop l := by
  simp [State.withLoop]

theorem writeAlu_withLoop (z : AluDest) (o : AluOut) (s : State) (l : List LoopEntry) :
    writeAlu z o (s.withLoop l) = (writeAlu z o s).withLoop l := by
  cases z <;> exact congrArg (State.setAstat · _) (State.setBank_withLoop s _ l)

theorem writeMac_withLoop (z : MacDest) (r : Acc) (s : State) (l : List LoopEntry) :
    writeMac z r (s.withLoop l) = (writeMac z r s).withLoop l := by
  cases z <;> exact congrArg (State.setAstat · _) (State.setBank_withLoop s _ l)

/-- The operands of a computation are registers: none is the loop stack. -/
theorem evalAlu_withLoop (f : AluFn) (s : State) (l : List LoopEntry) :
    evalAlu f (s.withLoop l) = evalAlu f s := by cases f <;> rfl

theorem evalMac_withLoop (f : MacFn) (s : State) (l : List LoopEntry) :
    evalMac f (s.withLoop l) = evalMac f s := by cases f <;> rfl

theorem loopFree_writeAlu (z : AluDest) {f : State → AluOut}
    (hf : ∀ s l, f (s.withLoop l) = f s) : LoopFree (fun s => writeAlu z (f s) s) where
  same s := .of_stk (writeAlu_pc z _ s) (writeAlu_stk z _ s)
  swap s l := by rw [hf, writeAlu_withLoop]

theorem loopFree_writeMac (z : MacDest) {f : State → Acc}
    (hf : ∀ s l, f (s.withLoop l) = f s) : LoopFree (fun s => writeMac z (f s) s) where
  same s := .of_stk (writeMac_pc z _ s) (writeMac_stk z _ s)
  swap s l := by rw [hf, writeMac_withLoop]

theorem loopFreeClause_evalComp (o : Comp) : LoopFreeClause (evalComp o) := by
  cases o with
  | alu f z =>
    exact ⟨fun s t => .of_stk (writeAlu_pc z _ t) (writeAlu_stk z _ t),
      fun s t l => by rw [evalComp, evalAlu_withLoop, writeAlu_withLoop]; rfl⟩
  | mac f z =>
    exact ⟨fun s t => .of_stk (writeMac_pc z _ t) (writeMac_stk z _ t),
      fun s t l => by rw [evalComp, evalMac_withLoop, writeMac_withLoop]; rfl⟩

theorem loopFreeClause_evalShift (f : ShiftFn) : LoopFreeClause (evalShift f) where
  same s t := .of_stk (evalShift_pc f s t) (evalShift_stk f s t)
  swap s t l := by
    cases f with
    | shift | expadj => exact State.setBank_withLoop t _ l
    | exp => exact congrArg (State.setAstat · _) (State.setBank_withLoop t _ l)

theorem loopFree_saturateMr : LoopFree saturateMr where
  same s := .of_stk (saturateMr_pc s) (saturateMr_stk s)
  swap s l := by
    unfold saturateMr
    rw [apply_ite (fun u : State => u.withLoop l), ← State.setBank_withLoop]
    rfl

theorem loopFree_flagOps (o : FlagOps) : LoopFree (flagOps o) where
  same s := by
    unfold flagOps
    split <;> exact ⟨rfl, rfl, rfl⟩
  swap s l := by
    unfold flagOps
    rw [apply_ite (fun u : State => u.withLoop l)]
    rfl

/-! #### Moves and the clauses beside them (R151, R280 to R291) -/

theorem loopFree_wrD (d : DReg) (v : State → Word) (hv : ∀ s l, v (s.withLoop l) = v s) :
    LoopFree (fun s => wrD d (v s) s) where
  same s := .of_stk (wrD_pc d _ s) (wrD_stk d _ s)
  swap s l := by
    rw [hv]
    exact State.setBank_withLoop s _ l

theorem loopFree_postModify (p : Pair) : LoopFree (postModify p) :=
  ⟨fun _ => ⟨rfl, rfl, rfl⟩, fun _ _ => rfl⟩

theorem loopFree_takePmWord (d : DReg) (w : PmBits) : LoopFree (takePmWord d w) where
  same _ := .of_stk (wrD_pc d _ _) (wrD_stk d _ _)
  swap s l := State.setBank_withLoop (s.setPx (w.extractLsb' 0 Config.PXW)) _ l

/-- SSTAT shows of the loop stack whether it is empty (R29). -/
theorem sstat_withLoop {s : State} {l : List LoopEntry} (hl : l.isEmpty = s.stk.loop.isEmpty) :
    sstat (s.withLoop l) = sstat s := by
  unfold sstat
  rw [← hl]
  rfl

theorem readReg_withLoop {r : Reg} {v : Word} {s u : State} (h : readReg r s = .ok (v, u))
    {l : List LoopEntry} (hl : l.isEmpty = s.stk.loop.isEmpty) :
    readReg r (s.withLoop l) = .ok (v, u.withLoop l) := by
  cases r with
  | ifc | owrcntr => cases h
  | sstat =>
    cases h
    rw [readReg, sstat_withLoop hl]
  | _ =>
    cases h
    rfl

theorem readReg_sameFlow {r : Reg} {v : Word} {s u : State} (h : readReg r s = .ok (v, u)) :
    SameFlow s u := by
  obtain rfl | rfl := readReg_same h <;> exact ⟨rfl, rfl, rfl⟩

theorem ifcPending_withLoop (w : Word) (s : State) (l : List LoopEntry) (srcs : List IntSource)
    (p : Word) : ifcPending w (s.withLoop l) srcs p = ifcPending w s srcs p := by
  induction srcs generalizing p with
  | nil => rfl
  | cons src srcs ih =>
    rw [ifcPending, ih]
    rfl

theorem loopFree_writeIfc (v : Word) : LoopFree (writeIfc v) where
  same _ := ⟨rfl, rfl, rfl⟩
  swap s l := by
    unfold writeIfc
    simp only [ifcPending_withLoop]
    rfl

theorem keepsLoop_writeCntr (v : Addr) : KeepsLoop (writeCntr v) := by
  intro s u h
  obtain ⟨hl, rfl⟩ | ⟨hl, hroom, rfl⟩ := writeCntr_ok.mp h
  · exact ⟨⟨rfl, rfl, rfl⟩, fun l _ => writeCntr_ok.mpr (.inl ⟨hl, rfl⟩)⟩
  · exact ⟨⟨rfl, rfl, rfl⟩, fun l _ => writeCntr_ok.mpr (.inr ⟨hl, hroom, rfl⟩)⟩

/-- A write of a register: CNTR pushes the count, the others are one update (R291). -/
theorem keepsLoop_writeReg (d : Reg) (v : Word) : KeepsLoop (writeReg d v) := by
  intro s u h
  cases d with
  | dreg d => exact (loopFree_wrD d (fun _ => v) fun _ _ => rfl).keepsLoop h
  | cntr => exact keepsLoop_writeCntr _ h
  | ifc => exact (loopFree_writeIfc v).keepsLoop h
  | sb =>
    cases h
    exact ⟨.of_stk (s.setBank_pc _) (s.setBank_stk _),
      fun l _ => congrArg Except.ok (State.setBank_withLoop s _ l)⟩
  | sstat => cases h
  | _ =>
    cases h
    exact ⟨⟨rfl, rfl, rfl⟩, fun _ _ => rfl⟩

theorem keepsLoop_moveReg (d r : Reg) : KeepsLoop (moveReg d r) := by
  intro s v h
  obtain ⟨⟨x, u⟩, hr, hw⟩ := bind_ok.mp h
  have hsu := readReg_sameFlow hr
  obtain ⟨huv, hwl⟩ := keepsLoop_writeReg d x hw
  exact ⟨hsu.trans huv, fun l hl =>
    bind_ok.mpr ⟨_, readReg_withLoop hr hl, hwl l (hsu.loopStack ▸ hl)⟩⟩

theorem keepsLoop_loadDirect (d : Reg) (a : Addr) : KeepsLoop (loadDirect d a) := by
  intro s u h
  obtain ⟨v, hr, hw⟩ := bind_ok.mp h
  obtain ⟨hsu, hwl⟩ := keepsLoop_writeReg d v hw
  exact ⟨hsu, fun l hl => bind_ok.mpr ⟨v, hr, hwl l hl⟩⟩

theorem keepsLoop_writeDm (a : Addr) (v : Word) : KeepsLoop (writeDm a v) := by
  intro s u h
  obtain ⟨hram, rfl⟩ := writeDm_ok.mp h
  exact ⟨⟨rfl, rfl, rfl⟩, fun l _ => writeDm_ok.mpr ⟨hram, rfl⟩⟩

theorem keepsLoop_storeDirect (a : Addr) (r : Reg) : KeepsLoop (storeDirect a r) := by
  intro s v h
  obtain ⟨⟨x, u⟩, hr, hw⟩ := bind_ok.mp h
  have hsu := readReg_sameFlow hr
  obtain ⟨huv, hwl⟩ := keepsLoop_writeDm a x hw
  exact ⟨hsu.trans huv, fun l hl =>
    bind_ok.mpr ⟨_, readReg_withLoop hr hl, hwl l (hsu.loopStack ▸ hl)⟩⟩

theorem keepsLoop_loadDm (d : DReg) (p : Pair) : KeepsLoop (loadDm d p) := by
  intro s u h
  obtain ⟨v, hr, rfl⟩ := loadDm_ok.mp h
  exact ⟨.of_stk (wrD_pc d v _) (wrD_stk d v _), fun l _ =>
    loadDm_ok.mpr ⟨v, hr, (State.setBank_withLoop (postModify p s) _ l).symm⟩⟩

theorem keepsLoop_loadPm (d : DReg) (p : Pair) : KeepsLoop (loadPm d p) := by
  intro s u h
  obtain ⟨w, hr, rfl⟩ := loadPm_ok.mp h
  have hfree := loopFree_takePmWord d w
  have hsame : SameFlow s (postModify p s) := (loopFree_postModify p).same s
  exact ⟨hsame.trans (hfree.same _), fun l _ =>
    loadPm_ok.mpr ⟨w, hr, (hfree.swap (postModify p s) l).symm⟩⟩

theorem keepsLoop_storeDm (p : Pair) {v : State → Word} (hv : ∀ s l, v (s.withLoop l) = v s) :
    KeepsLoop (fun s => storeDm p (v s) s) := by
  intro s x h
  obtain ⟨u, hw, rfl⟩ := storeDm_ok.mp h
  obtain ⟨hram, rfl⟩ := writeDm_ok.mp hw
  exact ⟨⟨rfl, rfl, rfl⟩, fun l _ =>
    storeDm_ok.mpr ⟨_, writeDm_ok.mpr ⟨hram, by rw [hv]⟩, rfl⟩⟩

theorem keepsLoop_storePm (p : Pair) (r : DReg) : KeepsLoop (fun s => storePm p (rdD r s) s) := by
  intro s x h
  obtain ⟨u, hw, rfl⟩ := storePm_ok.mp h
  obtain ⟨hram, rfl⟩ := writeCell_ok.mp hw
  exact ⟨⟨rfl, rfl, rfl⟩, fun l _ => storePm_ok.mpr ⟨_, writeCell_ok.mpr ⟨hram, rfl⟩, rfl⟩⟩

theorem keepsLoop_twoReads (d : XDual) (p : Pair) (e : YDual) (q : Pair) :
    KeepsLoop (twoReads d p e q) := by
  intro s u h
  obtain ⟨w, v, hw, hv, rfl⟩ := twoReads_ok.mp h
  have hx := loopFree_wrD (xDualReg d) (fun _ => v) fun _ _ => rfl
  have hy := loopFree_takePmWord (yDualReg e) w
  have hsame : SameFlow s (postModify q (postModify p s)) := ⟨rfl, rfl, rfl⟩
  refine ⟨(hsame.trans (hx.same _)).trans (hy.same _), fun l _ => ?_⟩
  refine twoReads_ok.mpr ⟨w, v, hw, hv, ?_⟩
  rw [← hy.swap, ← hx.swap]
  rfl

/-- A computation clause beside a move: both read the state before (R151). -/
theorem KeepsLoop.withClause {w : State → State → State} {m : State → State → Eff State}
    (hw : LoopFreeClause w) (hm : KeepsLoop (fun s => m s s)) :
    KeepsLoop (fun s => withClause (w s) (m s) s) := by
  intro s v h
  obtain ⟨u, hu, rfl⟩ := withClause_ok.mp h
  obtain ⟨hsu, hml⟩ := hm hu
  exact ⟨hsu.trans (hw.same s u), fun l hl =>
    withClause_ok.mpr ⟨_, hml l hl, (hw.swap s u l).symm⟩⟩

/-! #### The stack clauses (R341 to R344) -/

theorem keepsLoop_pushSts : KeepsLoop pushSts := by
  intro s u h
  obtain ⟨hroom, rfl⟩ := pushSts_ok.mp h
  exact ⟨⟨rfl, rfl, rfl⟩, fun l _ => pushSts_ok.mpr ⟨hroom, rfl⟩⟩

theorem keepsLoop_popSts : KeepsLoop popSts := by
  intro s u h
  obtain ⟨e, rest, hsts, rfl⟩ := popSts_ok.mp h
  exact ⟨⟨rfl, rfl, rfl⟩, fun l _ => popSts_ok.mpr ⟨e, rest, hsts, rfl⟩⟩

theorem keepsLoop_popCntr : KeepsLoop popCntr := by
  intro s u h
  obtain ⟨a, rest, hcntr, rfl⟩ := popCntr_ok.mp h
  exact ⟨⟨rfl, rfl, rfl⟩, fun l _ => popCntr_ok.mpr ⟨a, rest, hcntr, rfl⟩⟩

theorem keepsLoop_stsOp (o : Option StsOp) : KeepsLoop (stsOp o) := by
  match o with
  | none => exact loopFree_id.keepsLoop
  | some .push => exact keepsLoop_pushSts
  | some .pop => exact keepsLoop_popSts

/-- Clauses of which none pops the PC or the loop stack (R341). -/
theorem keepsLoop_stackOps {o : StackOps} (h : (o.pc || o.loop) = false) :
    KeepsLoop (stackOps o) := by
  obtain ⟨hpc, hloop⟩ := Bool.or_eq_false_iff.mp h
  exact (keepsLoop_stsOp o.sts).bind <| (keepsLoop_optionally fun _ => keepsLoop_popCntr).bind <|
    (keepsLoop_optionally fun h => by rw [hpc] at h; cases h).bind <|
      keepsLoop_optionally fun h => by rw [hloop] at h; cases h

/-! ### Every instruction that goes on to the next address (R300, R308) -/

/-- `u` is what the instruction `r` leaves of `s` before the next pc: with any loop stack, empty where
that of `s` is, the sequential pc with the loop-end check follows it. -/
structure LoopEffect (r : State → Result) (s u : State) : Prop where
  same : SameFlow s u
  elsewhere : ∀ l, l.isEmpty = s.stk.loop.isEmpty → r (s.withLoop l) = sequential (.ok (u.withLoop l))

/-- An instruction that answers has such an effect. -/
def LoopBlind (r : State → Result) : Prop := ∀ ⦃s t⦄, r s = .next t → ∃ u, LoopEffect r s u

theorem LoopEffect.here {r : State → Result} {s u : State} (h : LoopEffect r s u) :
    r s = sequential (.ok u) := by
  have hu : u.withLoop s.stk.loop = u := by
    rw [← h.same.loopStack]
    rfl
  exact (h.elsewhere s.stk.loop rfl).trans (by rw [hu])

theorem KeepsLoop.loopBlind {f : State → Eff State} (hf : KeepsLoop f) :
    LoopBlind (fun s => sequential (f s)) := by
  intro s t h
  obtain ⟨u, hu, -⟩ := sequential_next.mp h
  obtain ⟨hsame, hfl⟩ := hf hu
  exact ⟨u, hsame, fun l hl => congrArg sequential (hfl l hl)⟩

theorem LoopFree.loopBlind {g : State → State} (hg : LoopFree g) :
    LoopBlind (fun s => sequential (.ok (g s))) := hg.keepsLoop.loopBlind

/-- A form that a member may lack (U13). -/
theorem LoopBlind.needs {r : State → Result} (hr : LoopBlind r) (b : Params → Bool) :
    LoopBlind (fun s => needs (b s.params) (r s)) := by
  intro s t h
  obtain ⟨hb, h⟩ := needs_next.mp h
  obtain ⟨u, hsame, hl⟩ := hr h
  refine ⟨u, hsame, fun l hle => ?_⟩
  show Machine.needs (b s.params) (r (s.withLoop l)) = _
  rw [hb, needs_true, hl l hle]

/-- A form that two clauses may make clash (R160). -/
theorem LoopBlind.unlessClash {r : State → Result} (hr : LoopBlind r) (writes : DReg → Bool)
    (d : DReg) : LoopBlind (fun s => unlessClash writes d (r s)) := by
  intro s t h
  obtain ⟨hw, h⟩ := unlessClash_next.mp h
  have hclear : (fun s => Machine.unlessClash writes d (r s)) = r := by
    funext x
    rw [Machine.unlessClash, hw]
    rfl
  rw [hclear]
  exact hr h

section forms
variable (c : Cond)

theorem loopBlind_aluIf (z : AluDest) {f : State → AluOut} (hf : ∀ s l, f (s.withLoop l) = f s) :
    LoopBlind (aluIf c z f) := ((loopFree_writeAlu z hf).keepsLoop.ifThen c).loopBlind

theorem loopBlind_aluOptionIf (z : AluDest) {f : State → AluOut}
    (hf : ∀ s l, f (s.withLoop l) = f s) : LoopBlind (aluOptionIf c z f) :=
  (loopBlind_aluIf c z hf).needs Params.hasAluConstants

theorem loopBlind_aluConstIf (k : Word) (z : AluDest) {f : State → AluOut}
    (hf : ∀ s l, f (s.withLoop l) = f s) : LoopBlind (aluConstIf k c z f) := by
  intro s t h
  obtain ⟨hhas, hk, h⟩ := aluConstIf_next.mp h
  obtain ⟨u, hsame, hl⟩ := loopBlind_aluIf c z hf h
  exact ⟨u, hsame, fun l hle =>
    (aluConstIf_eq (s := s.withLoop l) hhas hk c z f).trans (hl l hle)⟩

theorem loopBlind_macIf (z : MacDest) {f : State → Acc} (hf : ∀ s l, f (s.withLoop l) = f s) :
    LoopBlind (macIf c z f) := ((loopFree_writeMac z hf).keepsLoop.ifThen c).loopBlind

theorem loopBlind_shiftIf (f : ShiftFn) : LoopBlind (shiftIf c (evalShift f)) :=
  ((loopFreeClause_evalShift f).alone.keepsLoop.ifThen c).loopBlind

end forms

theorem loopFree_divideWrite {f : State → Bool × Word × Word}
    (hf : ∀ s l, f (s.withLoop l) = f s) : LoopFree (fun s => divideWrite (f s) s) where
  same s := .of_stk (s.setBank_pc _) (s.setBank_stk _)
  swap s l := by
    rw [hf]
    exact congrArg (State.setAstat · _) (State.setBank_withLoop s _ l)

theorem loopFree_writeSr (o : Bool) {r : State → BitVec Config.SRW}
    (hr : ∀ s l, r (s.withLoop l) = r s) : LoopFree (fun s => writeSr o (r s) s) where
  same s := .of_stk (s.setBank_pc _) (s.setBank_stk _)
  swap s l := by
    rw [hr]
    exact State.setBank_withLoop s _ l

theorem loopFree_setInts (b : Bool) : LoopFree (fun s => s.setInts b) :=
  ⟨fun _ => ⟨rfl, rfl, rfl⟩, fun _ _ => rfl⟩

/-- Every instruction that neither sets `pc` itself nor pops the PC or the loop stack by a clause: the
constructors by family, each with the lemma about the operation it shares. -/
theorem exec_loopBlind {i : Instr} (hflow : isFlow i = false) (hpop : popsPcOrLoop i = false) :
    LoopBlind (exec i) := by
  cases i with
  | addXY | addXC | addXYC | subXY | subXYC | subXC | subYX | subYXC | negXC | andXY | orXY | xorXY
  | passX | passY | negX | negY | notX | notY | absX | incY | decY =>
    exact loopBlind_aluIf _ _ fun _ _ => rfl
  | addXK | addXKC | addXNK | addXNKC | subXK | subXKC | subXNK | subXNKC | subKX | subKXC | subNKX
  | subNKXC | andXK | andXNK | orXK | orXNK | xorXK | xorXNK | pass1 | passM1 | passK | passNK =>
    exact loopBlind_aluConstIf _ _ _ fun _ _ => rfl
  | tstbit | setbit | clrbit | tglbit | pass0 => exact loopBlind_aluOptionIf _ _ fun _ _ => rfl
  | divs y x =>
    exact (loopFree_divideWrite (f := fun s => divS (xAlu x s) (yAlu y s) s.bank.ay0)
      fun _ _ => rfl).loopBlind
  | divq x =>
    exact (loopFree_divideWrite (f := fun s => divQ (xAlu x s) s.bank.af s.bank.ay0 (s.flag .aq))
      fun _ _ => rfl).loopBlind
  | noneAlu f =>
    have hfree : LoopFree (fun s => s.setAstat (evalAlu f s).astat) :=
      ⟨fun _ => ⟨rfl, rfl, rfl⟩, fun s l => by rw [evalAlu_withLoop]; rfl⟩
    exact hfree.loopBlind.needs Params.hasAluConstants
  | mulRnd | mulSs | mulSu | mulUs | mulUu | macRnd | macSs | macSu | macUs | macUu | msubRnd | msubSs
  | msubSu | msubUs | msubUu | square | mrZero | mrMr | mrMrRnd =>
    exact loopBlind_macIf _ _ fun _ _ => rfl
  | satMr => exact loopFree_saturateMr.loopBlind
  | ashift | lshift | norm | expHi | expHix | expLo | expadj => exact loopBlind_shiftIf _ _
  | ashiftImm o x e h =>
    exact (loopFree_writeSr o (r := fun s => shift32 (xShift x s) e.toInt h true)
      fun _ _ => rfl).loopBlind
  | lshiftImm o x e h =>
    exact (loopFree_writeSr o (r := fun s => shift32 (xShift x s) e.toInt h false)
      fun _ _ => rfl).loopBlind
  | regReg d r => exact (keepsLoop_moveReg d r).loopBlind
  | regDmAddr d a => exact (keepsLoop_loadDirect d a).loopBlind
  | regData d v => exact (keepsLoop_writeReg d _).loopBlind
  | dregDm d p => exact (keepsLoop_loadDm d p).loopBlind
  | dregPm d p => exact (keepsLoop_loadPm d p).loopBlind
  | dmDreg p r => exact (keepsLoop_storeDm p (v := rdD r) fun _ _ => rfl).loopBlind
  | dmData p v => exact (keepsLoop_storeDm p (v := fun _ => v) fun _ _ => rfl).loopBlind
  | pmDreg p r => exact (keepsLoop_storePm p r).loopBlind
  | dmAddrReg a r => exact (keepsLoop_storeDirect a r).loopBlind
  | dregData d v => exact (loopFree_wrD d (fun _ => v) fun _ _ => rfl).loopBlind
  | nop => exact loopFree_id.loopBlind
  | stackControl o => exact (keepsLoop_stackOps hpop).loopBlind
  | pushSts => exact keepsLoop_pushSts.loopBlind
  | popSts => exact keepsLoop_popSts.loopBlind
  | popCntr => exact keepsLoop_popCntr.loopBlind
  | modeControl | enaTimer | disTimer | enaMMode | disMMode | enaArSat | disArSat | enaAvLatch
  | disAvLatch | enaBitRev | disBitRev | enaSecReg | disSecReg | enaGMode | disGMode =>
    exact LoopFree.loopBlind ⟨fun _ => ⟨rfl, rfl, rfl⟩, fun _ _ => rfl⟩
  | modify p => exact (loopFree_postModify p).loopBlind
  | flagOut o c =>
    exact ((loopFree_flagOps o).keepsLoop.ifThen c).loopBlind.needs
      fun x => FlagOps.onlyFo o || x.hasFlagPins
  | enaInts => exact (loopFree_setInts true).loopBlind.needs Params.hasIntsInstr
  | disInts => exact (loopFree_setInts false).loopBlind.needs Params.hasIntsInstr
  | dualRead d p e q => exact (keepsLoop_twoReads d p e q).loopBlind
  | compDmPm o d p e q =>
    exact (KeepsLoop.withClause (loopFreeClause_evalComp o) (keepsLoop_twoReads d p e q)).loopBlind
  | compDm o d p =>
    exact (KeepsLoop.withClause (loopFreeClause_evalComp o)
      (keepsLoop_loadDm d p)).loopBlind.unlessClash _ d
  | compPm o d p =>
    exact (KeepsLoop.withClause (loopFreeClause_evalComp o)
      (keepsLoop_loadPm d p)).loopBlind.unlessClash _ d
  | dmComp p r o =>
    exact (KeepsLoop.withClause (m := fun s => storeDm p (rdD r s)) (loopFreeClause_evalComp o)
      (keepsLoop_storeDm p fun _ _ => rfl)).loopBlind
  | pmComp p r o =>
    exact (KeepsLoop.withClause (m := fun s => storePm p (rdD r s)) (loopFreeClause_evalComp o)
      (keepsLoop_storePm p r)).loopBlind
  | compMove o d r =>
    exact (KeepsLoop.withClause (loopFreeClause_evalComp o)
      (loopFree_wrD d (rdD r) fun _ _ => rfl).keepsLoop).loopBlind.unlessClash _ d
  | shiftDm o d p =>
    exact (KeepsLoop.withClause (loopFreeClause_evalShift o)
      (keepsLoop_loadDm d p)).loopBlind.unlessClash _ d
  | shiftPm o d p =>
    exact (KeepsLoop.withClause (loopFreeClause_evalShift o)
      (keepsLoop_loadPm d p)).loopBlind.unlessClash _ d
  | dmShift p r o =>
    exact (KeepsLoop.withClause (m := fun s => storeDm p (rdD r s)) (loopFreeClause_evalShift o)
      (keepsLoop_storeDm p fun _ _ => rfl)).loopBlind
  | pmShift p r o =>
    exact (KeepsLoop.withClause (m := fun s => storePm p (rdD r s)) (loopFreeClause_evalShift o)
      (keepsLoop_storePm p r)).loopBlind
  | shiftMove o d r =>
    exact (KeepsLoop.withClause (loopFreeClause_evalShift o)
      (loopFree_wrD d (rdD r) fun _ _ => rfl).keepsLoop).loopBlind.unlessClash _ d
  | popPc | popLoop => cases hpop
  | jumpAddr | jumpInd | jumpFlag | callAddr | callInd | callFlag | rts | rti | doUntil | idle
  | idleN => cases hflow

/-- Settles O15: what follows the effect is the sequential pc or the top of the PC stack, which the
effect and the test of the termination leave. -/
theorem sequentialPc : Obligations.SequentialPc := by
  unfold Obligations.SequentialPc
  intro i s t hflow hpop h
  obtain ⟨u, hu⟩ := exec_loopBlind hflow hpop h
  have hsame := hu.same
  rw [hu.here] at h
  obtain ⟨hlast, hnext⟩ := advance_ok (finish_next.mp h)
  rw [hsame.pc] at hlast hnext
  have hend : AtLoopEnd u ↔ AtLoopEnd s := by
    rw [AtLoopEnd, AtLoopEnd, hsame.pc, hsame.loopStack]
  rw [hend] at hnext
  obtain ⟨hopen, rfl⟩ | ⟨e, rest, b, v, hloop, he, hterm, hnext⟩ := hnext
  · have hpc : u.stepped.pc = s.pc + 1 := congrArg (· + 1) hsame.pc
    exact ⟨hlast, fun _ => hpc, fun hatEnd => absurd hatEnd hopen⟩
  · refine ⟨hlast, fun hopen => absurd (hend.mp ⟨e, rest, hloop, he.trans hsame.pc.symm⟩) hopen,
      fun _ => ?_⟩
    obtain ⟨-, w, -, x, -, rfl⟩ | ⟨-, a, pcs, hpc, rfl⟩ := hnext
    · exact .inl rfl
    · refine .inr ⟨pcs, ?_⟩
      rw [← hsame.pcStack, ← (evalTerm_same hterm).pcStack]
      exact hpc

/-- A loop that ends one address later does not end here. -/
theorem straight_of_later_end {s : State} {t : Term} {rest : List LoopEntry}
    (hlast : s.pc ≠ 0x3FFF#14) (hloop : s.stk.loop = ⟨s.pc + 1, t⟩ :: rest) : Straight s := by
  refine ⟨hlast, ?_⟩
  rintro ⟨e, below, he, hend⟩
  rw [hloop] at he
  cases he
  exact absurd hend (by simp)

/-- Settles O14: the effect elsewhere is the effect here, and the check follows it, by the termination
and the count that the effect left. -/
theorem loopEndCheck : Obligations.LoopEndCheck := by
  unfold Obligations.LoopEndCheck
  intro i s u t rest a pcs hflow hpop hlast hloop hpc hexec
  obtain ⟨v, hv⟩ := exec_loopBlind hflow hpop hexec
  obtain ⟨hvpc, hvstack, hvloop⟩ := hv.same
  obtain rfl : u = v.stepped := by
    have hstraight : Straight v := straight_of_later_end (hvpc ▸ hlast) (hvpc ▸ hvloop)
    rw [hv.here, sequential_straight hstraight] at hexec
    injection hexec with hstep
    exact hstep.symm
  intro round out
  have hhere : exec i s = sequential (.ok (v.withLoop s.stk.loop)) :=
    hv.elsewhere s.stk.loop (by rw [hloop]; rfl)
  have hxlast : (v.withLoop s.stk.loop).pc ≠ 0x3FFF#14 := fun e => hlast (hvpc.symm.trans e)
  have hxpc : (v.withLoop s.stk.loop).stk.pc = a :: pcs := hvstack.trans hpc
  have hclose : exec i s = finish (closeLoop (v.pc + 1) t (v.withLoop s.stk.loop)) :=
    hhere.trans (congrArg finish (advance_at_loop_end hxlast hloop hvpc.symm))
  refine ⟨fun ht => ?_, ?_, ?_, ?_, ?_⟩
  · exact hclose.trans (congrArg finish (closeLoop_table (s := v.withLoop s.stk.loop) ht hloop hxpc))
  · rintro rfl hcount
    have hterm := evalTerm_ce (counterTest_counts (s := v.withLoop s.stk.loop) hcount)
    exact hclose.trans (congrArg finish (closeLoop_round hterm hxpc))
  · rintro n saved rfl hcount hsaved
    have hterm := evalTerm_ce (counterTest_restores (s := v.withLoop s.stk.loop) hcount hsaved)
    exact hclose.trans (congrArg finish (closeLoop_out hterm hloop hxpc))
  · rintro rfl hcount hsaved
    have hterm := evalTerm_ce (counterTest_empties (s := v.withLoop s.stk.loop) hcount hsaved)
    exact ⟨_, hclose.trans (congrArg finish (closeLoop_out hterm hloop hxpc)), rfl, rfl⟩
  · rintro rfl hcount
    have hterm := evalTerm_ce_zero (s := v.withLoop s.stk.loop) hcount
    exact hclose.trans (congrArg finish (closeLoop_error hterm))

end Sys2Proof.Machine
end

section
/-! PROOFS of the statements about the miscellaneous instructions (spec/46_misc.md R340, R341, R347, R348,
R356 to R359). Each is `sequential` on an effect that is told once as an update of the state: the clauses
of a stack control statement by what each stack gives, those of a mode control statement mode by mode. -/

namespace Sys2Proof.Machine

open Sys2Proof.Claims

/-! ### NOP, and the conditional instructions as NOP (R125, R340) -/

/-- A flag out statement whose pins the member has (R357, U13). -/
theorem exec_flagOut_exists {o : FlagOps} {c : Cond} {s : State} (hex : Exists (.flagOut o c) s) :
    exec (.flagOut o c) s = sequential (ifThen c (fun s => .ok (flagOps o s)) s) := by
  obtain ⟨-, -, hflag, -, -⟩ := hex
  have hpins : (FlagOps.onlyFo o || s.params.hasFlagPins) = true := by
    rw [Bool.or_eq_true, FlagOps.onlyFo_iff]
    exact hflag o c rfl
  show execFlagOut o c s = _
  rw [execFlagOut, hpins, needs_true]

/-- A conditional instruction that the member has is its effect under the condition, followed by the
sequential pc, or a control transfer under it. -/
theorem exec_conditional {i : Instr} {c : Cond} {s : State} (hi : condOf i = some c)
    (hex : Exists i s) :
    (isFlow i = false ∧ ∃ f, exec i s = sequential (ifThen c f s)) ∨
      (isFlow i = true ∧ ∃ f, exec i s = transfer (takeIf c f s) s) := by
  have ⟨hhas, hconst, _⟩ := hex
  cases i with
  | addXY | addXC | addXYC | subXY | subXYC | subXC | subYX | subYXC | negXC | andXY | orXY | xorXY
  | passX | passY | negX | negY | notX | notY | absX | incY | decY
  | mulRnd | mulSs | mulSu | mulUs | mulUu | macRnd | macSs | macSu | macUs | macUu | msubRnd | msubSs
  | msubSu | msubUs | msubUu | square | mrZero | mrMr | mrMrRnd
  | ashift | lshift | norm | expHi | expHix | expLo | expadj =>
    cases hi
    exact .inl ⟨rfl, _, rfl⟩
  | addXK | addXKC | subXK | subXKC | subKX | subKXC | andXK | orXK | xorXK | passK =>
    cases hi
    exact .inl ⟨rfl, _, aluConstIf_eq (hhas rfl) (constValue_eq_constVal _ ▸ hconst _ rfl) _ _ _⟩
  | addXNK | addXNKC | subXNK | subXNKC | subNKX | subNKXC | andXNK | orXNK | xorXNK | passNK =>
    cases hi
    exact .inl ⟨rfl, _, aluConstIf_eq (hhas rfl) (notBitConst_eq_notPow2 _ ▸ hconst _ rfl) _ _ _⟩
  | pass1 | passM1 =>
    cases hi
    exact .inl ⟨rfl, _, aluConstIf_eq (hhas rfl) (hconst _ rfl) _ _ _⟩
  | tstbit | setbit | clrbit | tglbit | pass0 =>
    cases hi
    exact .inl ⟨rfl, _, congrArg (needs · _) (hhas rfl)⟩
  | flagOut o =>
    cases hi
    exact .inl ⟨rfl, _, exec_flagOut_exists hex⟩
  | jumpAddr | jumpInd | callAddr | callInd | rts | rti =>
    cases hi
    exact .inr ⟨rfl, _, rfl⟩
  | _ => cases hi

/-- Away from a loop's end the following address of a transfer is the sequential pc (R300). -/
theorem finish_fallThrough {s : State} (hopen : ¬ AtLoopEnd s) :
    finish (fallThrough s) = sequential (.ok s) := by
  by_cases hlast : s.pc = 0x3FFF#14
  · rw [fallThrough_last hlast, sequential, ok_bind, advance, pcNext_last hlast, error_bind]
  · rw [fallThrough_ok.mpr ⟨hlast, rfl⟩, sequential_straight ⟨hlast, hopen⟩, finish_ok]

/-- Settles O44: NOP is the sequential pc alone, which is also what a false condition leaves of a
conditional instruction, whatever its effect is. -/
theorem nopOnlyPc : Obligations.NopOnlyPc := by
  unfold Obligations.NopOnlyPc
  intro s
  refine ⟨sequential_straight, fun rest a pcs hlast hloop hpc => ?_,
    fun i c s1 hi hex hc hopen => ?_⟩
  · exact sequential_table hlast hloop rfl (by simp) hpc
  · obtain ⟨-, f, hexec⟩ | ⟨hflow, f, hexec⟩ := exec_conditional hi hex
    · rw [hexec, ifThen_false hc]
      rfl
    · have hopen1 : ¬ AtLoopEnd s1 := by
        have hsame := evalCond_same hc
        rw [AtLoopEnd, hsame.loopStack, hsame.pc]
        exact hopen hflow
      rw [hexec, transfer_open (hopen hflow), takeIf, hc, ok_bind]
      exact finish_fallThrough hopen1

/-! ### The interrupt enable (R358, R359, R383) -/

/-- Settles O49: both write the one bit, without which no source is deliverable. -/
theorem interruptEnable : Obligations.InterruptEnable := by
  unfold Obligations.InterruptEnable
  intro s hs hhas
  have hexec (b : Bool) :
      needs s.params.hasIntsInstr (sequential (.ok (s.setInts b))) = .next (s.setInts b).stepped := by
    rw [hhas, needs_true]
    exact sequential_ok hs rfl rfl
  exact ⟨hexec true, hexec false, rfl⟩

/-! ### The address generators (R89, R91, R356) -/

/-- The sum of an index and a modifier, modulo 2^14, with the modifier signed (R89). -/
theorem add_eq_ofInt (a m : Addr) : a + m = BitVec.ofInt 14 (a.toNat + m.toInt) := by
  rw [BitVec.ofInt_add, BitVec.ofInt_natCast, BitVec.ofNat_toNat, BitVec.ofInt_toInt]
  exact congrArg (· + m) (BitVec.setWidth_eq a).symm

/-- The index after the post-modification, as the statements write it (R89, R90). -/
theorem nextIndex_eq (p : Pair) (s : State) :
    nextIndex p s = if s.len.get p.i = 0 then
        BitVec.ofInt 14 ((s.idx.get p.i).toNat + (s.mdf.get p.m).toInt)
      else Config.circFn (s.idx.get p.i) (s.mdf.get p.m) (s.len.get p.i) := by
  rw [nextIndex, add_eq_ofInt, circFn]

/-- Outside DAG1, or without BIT_REV, the DM address is the index (R89). -/
theorem dmEa_plain {p : Pair} {s : State} (h : s.mode .bitRev = false ∨ p.inDag2 = true) :
    dmEa p s = s.idx.get p.i := by
  refine if_neg fun hrev => ?_
  obtain ⟨hdag1, hmode⟩ := Bool.and_eq_true_iff.mp hrev
  have hi : p.i.val < 4 := of_decide_eq_true hdag1
  obtain hoff | hdag2 := h
  · exact absurd hmode (by simp [hoff])
  · have hi2 : 4 ≤ p.i.val := of_decide_eq_true (Bool.and_eq_true_iff.mp hdag2).1
    omega

/-- In DAG1 under BIT_REV it is the index bit-reversed (R91). -/
theorem dmEa_reversed {p : Pair} {s : State} (hmode : s.mode .bitRev = true)
    (hdag : p.inDag1 = true) : dmEa p s = Config.bitrevFn (s.idx.get p.i) :=
  if_pos (Bool.and_eq_true_iff.mpr ⟨(Bool.and_eq_true_iff.mp hdag).1, hmode⟩)

/-- Settles O37: MODIFY is the post-modification, which writes one index. -/
theorem addressGeneration : Obligations.AddressGeneration := by
  unfold Obligations.AddressGeneration
  intro p s hs
  have hexec : exec (.modify p) s = .next (postModify p s).stepped := sequential_ok hs rfl rfl
  refine ⟨?_, rfl, hexec, dmEa_plain, dmEa_reversed⟩
  rw [hexec, postModify, nextIndex_eq]

/-! ### The stack clauses together (R341 to R346) -/

/-- CNTR after a POP CNTR clause, where there is one (R344). -/
def counterAfter (b : Bool) (s : State) : Counter :=
  match b, s.stk.cntr with
  | true, n :: _ => ⟨n, true⟩
  | _, _ => s.cntr

/-- The status words after an STS clause, where there is one (R342, R343). -/
def statusAfter (o : Option StsOp) (s : State) : StsEntry :=
  match o, s.stk.sts with
  | some .pop, g :: _ => g
  | _, _ => ⟨s.astat, s.mstat, s.imask⟩

theorem counterAfter_pop {s : State} {n : Addr} {rest : List Addr} (h : s.stk.cntr = n :: rest) :
    counterAfter true s = ⟨n, true⟩ := by
  unfold counterAfter
  rw [h]

theorem counterAfter_keep (s : State) : counterAfter false s = s.cntr := rfl

theorem statusAfter_pop {s : State} {g : StsEntry} {rest : List StsEntry}
    (h : s.stk.sts = g :: rest) : statusAfter (some .pop) s = g := by
  unfold statusAfter
  rw [h]

theorem statusAfter_keep {o : Option StsOp} (h : o ≠ some .pop) (s : State) :
    statusAfter o s = ⟨s.astat, s.mstat, s.imask⟩ := by
  match o with
  | none | some .push => rfl
  | some .pop => exact absurd rfl h

/-- The state with the status words `g`. -/
def State.setStatus (s : State) (g : StsEntry) : State :=
  ((s.setAstat g.astat).setMstat g.mstat).setImask g.imask

/-- An STS clause that its stack allows (R342, R343). -/
theorem stsOp_eq {o : Option StsOp} {s : State} (hpop : o = some .pop → s.stk.sts ≠ [])
    (hpush : o = some .push → s.stk.sts.length < s.params.stsDepth) :
    stsOp o s =
      .ok ((s.setStk { s.stk with sts := stsAfter o s }).setStatus (statusAfter o s)) := by
  match o with
  | none => rfl
  | some .push => exact pushSts_ok.mpr ⟨hpush rfl, rfl⟩
  | some .pop =>
    obtain ⟨g, rest, hsts⟩ := List.exists_cons_of_ne_nil (hpop rfl)
    rw [statusAfter_pop hsts, stsAfter, hsts]
    exact popSts_ok.mpr ⟨g, rest, hsts, rfl⟩

/-- A POP CNTR clause that its stack allows, or none (R344). -/
theorem optionally_popCntr_eq {b : Bool} {s : State} (h : b = true → s.stk.cntr ≠ []) :
    optionally b popCntr s =
      .ok ((s.setStk { s.stk with cntr := popped b s.stk.cntr }).setCntr (counterAfter b s)) := by
  cases b with
  | false => rfl
  | true =>
    obtain ⟨n, rest, hcntr⟩ := List.exists_cons_of_ne_nil (h rfl)
    rw [counterAfter_pop hcntr, hcntr]
    exact popCntr_ok.mpr ⟨n, rest, hcntr, rfl⟩

/-- A POP PC clause that its stack allows, or none (R345). -/
theorem optionally_dropPc_eq {b : Bool} {s : State} (h : b = true → s.stk.pc ≠ []) :
    optionally b dropPc s = .ok (s.setStk { s.stk with pc := popped b s.stk.pc }) := by
  cases b with
  | false => rfl
  | true =>
    obtain ⟨a, rest, hpc⟩ := List.exists_cons_of_ne_nil (h rfl)
    rw [hpc]
    exact dropPc_ok.mpr ⟨a, rest, hpc, rfl⟩

/-- A POP LOOP clause that its stack allows, or none (R346). -/
theorem optionally_dropLoop_eq {b : Bool} {s : State} (h : b = true → s.stk.loop ≠ []) :
    optionally b dropLoop s = .ok (s.setStk { s.stk with loop := popped b s.stk.loop }) := by
  cases b with
  | false => rfl
  | true =>
    obtain ⟨e, rest, hloop⟩ := List.exists_cons_of_ne_nil (h rfl)
    rw [hloop]
    exact dropLoop_ok.mpr ⟨e, rest, hloop, rfl⟩

/-- The four stacks after the clauses of one statement (R341). -/
def stacksAfter (o : StackOps) (s : State) : Stacks where
  pc := popped o.pc s.stk.pc
  cntr := popped o.cntr s.stk.cntr
  loop := popped o.loop s.stk.loop
  sts := stsAfter o.sts s

/-- What the clauses of one statement leave before the next pc (R341). -/
def stackOpsAfter (o : StackOps) (s : State) : State :=
  ((s.setStk (stacksAfter o s)).setCntr (counterAfter o.cntr s)).setStatus (statusAfter o.sts s)

/-- Clauses that their stacks allow act each on its own stack (R341). -/
theorem stackOps_eq {o : StackOps} {s : State} (hcntr : o.cntr = true → s.stk.cntr ≠ [])
    (hpc : o.pc = true → s.stk.pc ≠ []) (hloop : o.loop = true → s.stk.loop ≠ [])
    (hpop : o.sts = some .pop → s.stk.sts ≠ [])
    (hpush : o.sts = some .push → s.stk.sts.length < s.params.stsDepth) :
    stackOps o s = .ok (stackOpsAfter o s) :=
  stackOps_ok.mpr ⟨_, _, _, stsOp_eq hpop hpush, optionally_popCntr_eq hcntr,
    optionally_dropPc_eq hpc, optionally_dropLoop_eq hloop⟩

/-- But for the stacks, CNTR, the status words and `pc` the clauses leave everything (R341). -/
theorem stackOpsAfter_frame (o : StackOps) (s : State) :
    ((((((stackOpsAfter o s).stepped).setStk s.stk).setCntr s.cntr).setAstat s.astat).setMstat
      s.mstat).setImask s.imask = s.stepped := by
  simp only [stackOpsAfter, State.setStatus, State.stepped, State.setPc, State.setStk, State.setCntr,
    State.setAstat, State.setMstat, State.setImask]

/-- Settles O46: the next state is what the four clauses leave, stepped. -/
theorem stackControlTogether : Obligations.StackControlTogether := by
  unfold Obligations.StackControlTogether
  intro o s hlast hend hcntr hpc hloop hpop hpush
  have hstraight : Straight (stackOpsAfter o s) :=
    ⟨hlast, fun ⟨e, rest, htop, hhere⟩ => hend e rest htop hhere⟩
  refine ⟨(stackOpsAfter o s).stepped, ?_, rfl, fun n rest hb hsaved => ?_, fun hb => ?_,
    fun g rest hsts hsaved => ?_, fun hsts => ?_, stackOpsAfter_frame o s⟩
  · show sequential (stackOps o s) = _
    rw [stackOps_eq hcntr hpc hloop hpop hpush, sequential_straight hstraight]
  · show counterAfter o.cntr s = _
    rw [hb, counterAfter_pop hsaved]
  · show counterAfter o.cntr s = _
    rw [hb, counterAfter_keep]
  · have hstatus : statusAfter o.sts s = g := by rw [hsts, statusAfter_pop hsaved]
    exact hstatus ▸ ⟨rfl, rfl, rfl⟩
  · have hstatus := statusAfter_keep hsts s
    exact ⟨congrArg StsEntry.astat hstatus, congrArg StsEntry.mstat hstatus,
      congrArg StsEntry.imask hstatus⟩

/-! ### The modes (R347, R348) -/

/-- A mode after ENA, DIS or no clause (R347). -/
def switched (w : Switch) (b : Bool) : Bool :=
  match w with
  | .ena => true
  | .dis => false
  | .keep => b

/-- The clause of a mode control statement for one mode (R348). -/
def modeSwitch (o : ModeOps) : Mode → Switch
  | .timer => o.timer
  | .mMode => o.mMode
  | .arSat => o.arSat
  | .avLatch => o.avLatch
  | .bitRev => o.bitRev
  | .secReg => o.secReg
  | .gMode => o.gMode

/-- One clause writes its own mode and leaves every other (R347). -/
theorem getLsbD_applySwitch (m n : Mode) (w : Switch) (a : BitVec 7) :
    (applySwitch m w a).getLsbD (modeBit n) =
      if n = m then switched w (a.getLsbD (modeBit n)) else a.getLsbD (modeBit n) := by
  cases w with
  | keep => exact (ite_self _).symm
  | ena | dis => exact getLsbD_withMode a m n _

/-- A mode control statement gives every mode what its clause says (R347). -/
theorem modeOps_mode (o : ModeOps) (s : State) (m : Mode) :
    (modeOps o s).mode m = switched (modeSwitch o m) (s.mode m) := by
  cases m <;> simp [modeOps, State.mode, getLsbD_applySwitch, modeSwitch]

/-- ENA or DIS of one mode writes it and leaves every other (R348). -/
theorem setMode_mode (m n : Mode) (b : Bool) (s : State) :
    (setMode m b s).mode n = if n = m then b else s.mode n := getLsbD_withMode s.mstat m n b

/-- The instructions `ena` and `dis` write the mode `m` alone (R347, R348). -/
structure Switches (m : Mode) (ena dis : Instr) : Prop where
  ena : ∀ s, exec ena s = sequential (.ok (setMode m true s))
  dis : ∀ s, exec dis s = sequential (.ok (setMode m false s))

/-- Settles O47: the pairs ENA and DIS by the mode they write, the statement of any clauses mode by
mode. -/
theorem modeControl : Obligations.ModeControl := by
  unfold Obligations.ModeControl
  intro s hs
  refine ⟨fun x hx => ?_, fun o => ?_⟩
  · have hpair : Switches x.1 x.2.1 x.2.2 := by
      simp only [List.mem_cons, List.not_mem_nil, or_false] at hx
      obtain rfl | rfl | rfl | rfl | rfl | rfl | rfl := hx <;>
        exact ⟨fun _ => rfl, fun _ => rfl⟩
    have hnext (b : Bool) :
        sequential (.ok (setMode x.1 b s)) = .next (setMode x.1 b s).stepped :=
      sequential_ok hs rfl rfl
    have hother (m : Mode) (hm : m ≠ x.1) (b : Bool) : (setMode x.1 b s).mode m = s.mode m := by
      rw [setMode_mode, if_neg hm]
    refine ⟨_, _, (hpair.ena s).trans (hnext true), (hpair.dis s).trans (hnext false), ?_, ?_,
      fun m hm => ⟨hother m hm true, hother m hm false⟩, rfl, rfl⟩
    · exact (setMode_mode x.1 x.1 true s).trans (if_pos rfl)
    · exact (setMode_mode x.1 x.1 false s).trans (if_pos rfl)
  · have hmode := modeOps_mode o s
    exact ⟨_, sequential_ok hs rfl rfl, rfl, hmode .timer, hmode .mMode, hmode .arSat,
      hmode .avLatch, hmode .bitRev, hmode .secReg, hmode .gMode⟩

/-! ### The flag pins (R357, R38) -/

/-- Settles O48: the pins by the clause of each, the event by whether one changes. -/
theorem flagOutPins : Obligations.FlagOutPins := by
  unfold Obligations.FlagOutPins
  intro o c s s1 hw hex
  obtain ⟨hc, hs⟩ := hw
  have hsame := evalCond_same hc
  have hfree := (loopFree_flagOps o).same s1
  refine ⟨newPins o s.pins, ?_, ?_⟩
  · intro tells
    have htells (w : FlagOp) (b : Bool) : tells w (flagValue w b) b := by cases w <;> rfl
    exact ⟨htells o.fo _, htells o.fl0 _, htells o.fl1 _, htells o.fl2 _⟩
  · rw [exec_flagOut_exists hex, ifThen_true hc,
      sequential_ok (straight_evalCond hc hs) hfree.pc hfree.loopStack, flagOps, hsame.pins,
      hsame.outputs, apply_ite State.stepped]

end Sys2Proof.Machine
end

section
/-! PROOFS of the statements about interrupts, the returns and the other agents (spec/60_exceptions.md
R381 to R396, spec/45_program_flow.md R305, R306, spec/10_state.md R30, R37). What happens to one source
is read off where it stands in the layout: no source before it and none after it has its bit. -/

namespace Sys2Proof.Machine

open Sys2Proof.Claims

/-! ### The sources (R30, R383, R384) -/

/-- How a source takes its requests, as the model and the statements write it (R30). -/
theorem isEdge_eq_edgeSensitive (s : State) (src : IntSource) :
    isEdge s src = edgeSensitive s src := rfl

/-- Which sources are edge-sensitive is read from ICNTL alone (R30). -/
theorem isEdge_congr {s t : State} (h : t.icntl = s.icntl) (src : IntSource) :
    isEdge t src = isEdge s src := by
  unfold isEdge
  rw [h]

/-- A mask with one bit replaced under a condition, bit by bit. -/
theorem getLsbD_ite_withBit (c : Bool) (m : Word) (k j : Fin 16) (b : Bool) :
    (if c then withBit m k b else m).getLsbD j.val =
      if c = true ∧ j = k then b else m.getLsbD j.val := by
  cases c
  · simp
  · rw [if_pos rfl, getLsbD_withBit]
    simp only [true_and]

/-- The model's test of a source, as the statements write it (R383). -/
theorem ready_iff (s : State) (src : IntSource) :
    (s.pending.getLsbD src.bit.val && s.imask.getLsbD src.bit.val) = true ↔ Ready s src :=
  Bool.and_eq_true_iff

/-- The source delivered is the first in priority order that is ready (R383, R384). -/
theorem deliverable_iff {s : State} {src : IntSource} :
    deliverable s = some src ↔ s.ints = true ∧ Ready s src ∧
      ∃ pre post, s.params.sources = pre ++ src :: post ∧ ∀ x ∈ pre, ¬ Ready s x := by
  unfold deliverable
  cases s.ints
  · simp
  · simp only [if_true, List.find?_eq_some_iff_append, Bool.not_eq_true', ← Bool.not_eq_true,
      ready_iff, true_and]

/-- Settles O54: the first source of the layout that is ready, in both directions. -/
theorem highestPriorityDelivered : Obligations.HighestPriorityDelivered := by
  unfold Obligations.HighestPriorityDelivered
  intro s src
  constructor
  · intro h
    obtain ⟨hints, hready, pre, post, hsplit, hnone⟩ := deliverable_iff.mp h
    exact ⟨hints, pre, post, hsplit, hready, hnone⟩
  · intro pre post hints hsplit hready hnone
    exact deliverable_iff.mpr ⟨hints, hready, pre, post, hsplit, hnone⟩

section layout
variable {pre post : List IntSource} {src : IntSource}

/-- No source of higher priority has the bit of a source or of one below it (R382). -/
theorem bit_ne_of_above (h : DistinctBits (pre ++ src :: post)) :
    ∀ x ∈ pre, ∀ y ∈ src :: post, x.bit ≠ y.bit := by
  obtain ⟨-, -, hcross⟩ := List.pairwise_append.mp h
  exact hcross

/-- No source of lower priority has a source's bit (R382). -/
theorem bit_ne_of_below (h : DistinctBits (pre ++ src :: post)) :
    ∀ y ∈ post, y.bit ≠ src.bit := by
  obtain ⟨-, htail, -⟩ := List.pairwise_append.mp h
  obtain ⟨hsrc, -⟩ := List.pairwise_cons.mp htail
  exact fun y hy => (hsrc y hy).symm

end layout

/-! ### A write of IFC (R30, R383) -/

section ifc
variable (w : Word) (s : State)

/-- The sources act on the pending bits one after the other. -/
theorem ifcPending_append (l r : List IntSource) (p : Word) :
    ifcPending w s (l ++ r) p = ifcPending w s r (ifcPending w s l p) := by
  induction l generalizing p with
  | nil => rfl
  | cons x l ih => exact ih _

/-- In a layout with distinct bits a source alone acts on its own pending bit. -/
theorem getLsbD_ifcPending_source {pre post : List IntSource} {src : IntSource}
    (hd : DistinctBits (pre ++ src :: post)) (p : Word) :
    ∃ q : Word, q.getLsbD src.bit.val = p.getLsbD src.bit.val ∧
      (ifcPending w s (pre ++ src :: post) p).getLsbD src.bit.val =
        (ifcPending w s [src] q).getLsbD src.bit.val := by
  refine ⟨ifcPending w s pre p, ?_, ?_⟩
  · exact getLsbD_ifcPending_other w s pre p src.bit
      fun x hx => bit_ne_of_above hd x hx src List.mem_cons_self
  · rw [ifcPending_append, ← List.singleton_append, ifcPending_append]
    exact getLsbD_ifcPending_other w s post _ src.bit (bit_ne_of_below hd)

variable {src : IntSource} (q : Word)

/-- The force bit alone sets the pending bit of an edge-sensitive source. -/
theorem getLsbD_ifcPending_force (hedge : isEdge s src = true) (hforce : optBit w src.force = true)
    (hclear : optBit w src.clear = false) :
    (ifcPending w s [src] q).getLsbD src.bit.val = true := by
  simp only [ifcPending, hedge, hforce, hclear, getLsbD_withBit, if_true]

/-- The clear bit alone clears it. -/
theorem getLsbD_ifcPending_clear (hedge : isEdge s src = true) (hforce : optBit w src.force = false)
    (hclear : optBit w src.clear = true) :
    (ifcPending w s [src] q).getLsbD src.bit.val = false := by
  simp only [ifcPending, hedge, hforce, hclear, getLsbD_withBit, if_true]

/-- A level-sensitive source, and one with neither bit written, keeps it. -/
theorem getLsbD_ifcPending_keep
    (h : isEdge s src = false ∨ optBit w src.force = false ∧ optBit w src.clear = false) :
    (ifcPending w s [src] q).getLsbD src.bit.val = q.getLsbD src.bit.val := by
  obtain hlevel | ⟨hforce, hclear⟩ := h
  · simp [ifcPending, hlevel]
  · simp [ifcPending, hforce, hclear]

end ifc

/-- The word `v` has a 1 at the place `b`, and IFC of `s` has that place (R30). -/
def IfcHit (s : State) (v : Word) (b : Option (Fin 16)) : Prop :=
  ∃ k, b = some k ∧ k.val < s.params.ifcWidth ∧ v.getLsbD k.val = true

/-- The bits of IFC that the model acts on are those that it has and that are written as 1. -/
theorem optBit_lowBits_iff (s : State) (v : Word) (b : Option (Fin 16)) :
    optBit (lowBits s.params.ifcWidth v) b = true ↔ IfcHit s v b := by
  cases b with
  | none => simp [optBit, IfcHit]
  | some k =>
    rw [optBit, getLsbD_lowBits _ v k.val k.isLt]
    simp [IfcHit]

theorem optBit_lowBits_eq_false (s : State) (v : Word) (b : Option (Fin 16)) :
    optBit (lowBits s.params.ifcWidth v) b = false ↔ ¬ IfcHit s v b := by
  rw [← optBit_lowBits_iff, Bool.not_eq_true]

/-- What a write of IFC leaves of one source's pending bit, where no two sources share one. -/
theorem writeIfc_pending {s : State} {src : IntSource} (v : Word)
    (hsrc : src ∈ s.params.sources) (hd : DistinctBits s.params.sources) :
    (edgeSensitive s src = true → IfcHit s v src.force → ¬ IfcHit s v src.clear →
      (writeIfc v s).pending.getLsbD src.bit.val = true) ∧
    (edgeSensitive s src = true → IfcHit s v src.clear → ¬ IfcHit s v src.force →
      (writeIfc v s).pending.getLsbD src.bit.val = false) ∧
    (edgeSensitive s src = false ∨ (¬ IfcHit s v src.force ∧ ¬ IfcHit s v src.clear) →
      (writeIfc v s).pending.getLsbD src.bit.val = s.pending.getLsbD src.bit.val) := by
  obtain ⟨pre, post, hsplit⟩ := List.append_of_mem hsrc
  rw [hsplit] at hd
  obtain ⟨q, hq, hbit⟩ :=
    getLsbD_ifcPending_source (lowBits s.params.ifcWidth v) s hd s.pending
  have hpending : (writeIfc v s).pending.getLsbD src.bit.val =
      (ifcPending (lowBits s.params.ifcWidth v) s [src] q).getLsbD src.bit.val := by
    rw [← hbit, ← hsplit]
    rfl
  rw [hpending, ← hq, ← isEdge_eq_edgeSensitive]
  have hset (b : Option (Fin 16)) := (optBit_lowBits_iff s v b).mpr
  have hunset (b : Option (Fin 16)) := (optBit_lowBits_eq_false s v b).mpr
  exact ⟨fun he hf hc => getLsbD_ifcPending_force _ s q he (hset _ hf) (hunset _ hc),
    fun he hc hf => getLsbD_ifcPending_clear _ s q he (hunset _ hf) (hset _ hc),
    fun h => getLsbD_ifcPending_keep _ s q (h.imp_right (And.imp (hunset _) (hunset _)))⟩

/-- A MOVE to IFC is a write of IFC, after a read that changes at most `draws`. -/
theorem exec_moves_ifc {i : Instr} {v : Word} {s u : State} (hs : Straight s)
    (h : Moves i .ifc v s u) : exec i s = .next (writeIfc v u).stepped := by
  rw [exec_of_moves h]
  obtain rfl | rfl := moves_state_eq h <;> exact sequential_move hs rfl rfl rfl

/-- Settles O34: the pending bits source by source, each by its own bits of IFC. -/
theorem writeOfIfc : Obligations.WriteOfIfc := by
  unfold Obligations.WriteOfIfc
  intro i v s u hs h hd
  refine ⟨_, exec_moves_ifc hs h, ?_, ?_⟩
  · obtain rfl | rfl := moves_state_eq h <;>
      simp only [writeIfc, State.stepped, State.setPc, State.setIfc, State.setPending,
        State.setDraws]
  · obtain rfl | rfl := moves_state_eq h
    · exact fun src hsrc => writeIfc_pending v hsrc hd
    · exact fun src hsrc => writeIfc_pending (s := s.setDraws (s.draws + 1)) v hsrc hd

/-! ### The returns (R305, R306, R386) -/

section returns
variable {s : State}

theorem takePc_empty (h : s.stk.pc = []) : takePc s = .error (.fault (.stackUnderflow .pc)) := by
  rw [takePc, h]

theorem returnFromCall_empty (h : s.stk.pc = []) :
    returnFromCall s = .error (.fault (.stackUnderflow .pc)) := by
  rw [returnFromCall, takePc_empty h]
  rfl

/-- The PC stack is popped first. -/
theorem returnFromInterrupt_empty (h : s.stk.pc = []) :
    returnFromInterrupt s = .error (.fault (.stackUnderflow .pc)) := by
  rw [returnFromInterrupt, takePc_empty h]
  rfl

theorem returnFromInterrupt_no_status {a : Addr} {pcs : List Addr} (hpc : s.stk.pc = a :: pcs)
    (hsts : s.stk.sts = []) :
    returnFromInterrupt s = .error (.fault (.stackUnderflow .sts)) := by
  have hempty := popSts_empty (s := s.setStk { s.stk with pc := pcs }) hsts
  rw [returnFromInterrupt, takePc_ok.mpr ⟨pcs, hpc, rfl⟩, ok_bind]
  show (popSts _ >>= _) = _
  rw [hempty, error_bind]

end returns

/-- Settles O40: the returns are their pops, on the stacks that the condition's evaluation keeps. -/
theorem returns : Obligations.Returns := by
  unfold Obligations.Returns
  intro c s s1 hopen
  refine ⟨fun hc => ?_, fun hc hlast => ?_⟩
  · have hsame := evalCond_same hc
    have hrts : exec (.rts c) s = finish (returnFromCall s1) := transfer_takeIf_true hc hopen _
    have hrti : exec (.rti c) s = finish (returnFromInterrupt s1) := transfer_takeIf_true hc hopen _
    rw [hrts, hrti, ← hsame.pcStack, ← hsame.stsStack]
    refine ⟨fun a pcs hpc => ⟨?_, fun e rest hsts => ?_, fun hsts => ?_⟩, fun hpc => ?_⟩
    · rw [returnFromCall_ok.mpr ⟨a, pcs, hpc, rfl⟩, finish_ok]
    · rw [returnFromInterrupt_ok.mpr ⟨a, pcs, e, rest, hpc, hsts, rfl⟩, finish_ok]
    · rw [returnFromInterrupt_no_status hpc hsts]
      rfl
    · rw [returnFromCall_empty hpc, returnFromInterrupt_empty hpc]
      exact ⟨rfl, rfl⟩
  · exact ⟨transfer_takeIf_false hc ⟨hlast, hopen⟩ _, transfer_takeIf_false hc ⟨hlast, hopen⟩ _⟩

/-- Settles O56: RTI pops what the entry pushed. -/
theorem rtiUndoesEntry : Obligations.RtiUndoesEntry := by
  unfold Obligations.RtiUndoesEntry
  intro s t src hentry hopen
  have hrti : exec (.rti .always) t = finish (returnFromInterrupt t) :=
    transfer_takeIf_true (evalCond_always t) hopen _
  obtain ⟨-, -, rfl⟩ := takeInterrupt_ok.mp hentry
  rw [hrti, finish_next]
  exact returnFromInterrupt_ok.mpr ⟨s.pc, s.stk.pc, _, s.stk.sts, rfl, rfl, rfl⟩

/-! ### Interrupt entry (R385) -/

section entry
variable {s : State} {src : IntSource}

theorem takeInterrupt_full_pc (h : s.params.pcDepth ≤ s.stk.pc.length) :
    takeInterrupt src s = .error (.fault (.stackOverflow .pc)) := by
  rw [takeInterrupt, pushPc_full h, error_bind]

/-- The PC stack is pushed first. -/
theorem takeInterrupt_full_sts (hpc : s.stk.pc.length < s.params.pcDepth)
    (hsts : s.params.stsDepth ≤ s.stk.sts.length) :
    takeInterrupt src s = .error (.fault (.stackOverflow .sts)) := by
  have hfull := pushSts_full (s := s.setStk { s.stk with pc := s.pc :: s.stk.pc }) hsts
  rw [takeInterrupt, pushPc_ok.mpr ⟨hpc, rfl⟩, ok_bind, hfull, error_bind]

/-- Without nesting every source is masked. -/
theorem nestMask_without (h : s.icntl.getLsbD 4 = false) : nestMask src s = 0 := by
  rw [nestMask, h]
  rfl

/-- The sources from the one with a given bit on, where none before it has that bit (R384). -/
theorem fromSource_append {pre post : List IntSource} (h : ∀ x ∈ pre, x.bit ≠ src.bit) :
    fromSource src.bit (pre ++ src :: post) = src :: post := by
  induction pre with
  | nil => exact if_pos rfl
  | cons x pre ih =>
    obtain ⟨hx, hpre⟩ := List.forall_mem_cons.mp h
    exact (if_neg hx).trans (ih hpre)

/-- With nesting the source and those below it are masked. -/
theorem nestMask_nested {pre post : List IntSource} (h : s.icntl.getLsbD 4 = true)
    (hsplit : s.params.sources = pre ++ src :: post) (hd : DistinctBits s.params.sources) :
    nestMask src s = clearBits (src :: post) s.imask := by
  rw [hsplit] at hd
  have hfrom : fromSource src.bit (pre ++ src :: post) = src :: post :=
    fromSource_append fun x hx => bit_ne_of_above hd x hx src List.mem_cons_self
  rw [nestMask, if_pos h, hsplit, hfrom]

/-- A turn of the core with a source to deliver is that source's entry (R385). -/
theorem step_of_deliverable {u : State} (hturn : CoreTurn s u) (hdel : deliverable s = some src) :
    step s = finish (takeInterrupt src u) := by
  obtain ⟨henv, rfl⟩ | ⟨rest, henv, rfl⟩ := hturn
  · simp only [step, turn, henv, coreTurn, hdel]
  · have hdel : deliverable (s.setEnv rest) = some src := hdel
    simp only [step, turn, henv, coreTurn, hdel]

end entry

/-- Settles O55: the two pushes with their stops, the mask by the place of the source in the layout. -/
theorem interruptEntry : Obligations.InterruptEntry := by
  unfold Obligations.InterruptEntry
  intro s u src hturn hdel
  rw [step_of_deliverable hturn hdel]
  obtain ⟨rest, rfl⟩ : ∃ rest, u = s.setEnv rest := by
    obtain ⟨-, rfl⟩ | ⟨rest, -, rfl⟩ := hturn
    exacts [⟨_, rfl⟩, ⟨rest, rfl⟩]
  refine ⟨fun hpc => ?_, fun hpc hsts => ?_, fun hpc hsts => ?_⟩
  · rw [takeInterrupt_full_pc (s := s.setEnv rest) hpc]
    rfl
  · rw [takeInterrupt_full_sts (s := s.setEnv rest) hpc hsts]
    rfl
  · refine ⟨nestMask src s, if isEdge s src then withBit s.pending src.bit false else s.pending,
      finish_next.mpr (takeInterrupt_ok.mpr ⟨hpc, hsts, rfl⟩), nestMask_without,
      fun hnest hd pre post hsplit => ?_, fun k => getLsbD_ite_withBit (isEdge s src) _ _ k false⟩
    rw [nestMask_nested hnest hsplit hd]
    rw [hsplit] at hd
    exact ⟨fun x hx => getLsbD_clearBits_mem _ _ x.bit ⟨x, hx, rfl⟩,
      fun x hx => getLsbD_clearBits_other _ _ x.bit fun y hy => (bit_ne_of_above hd x hx y hy).symm⟩

/-! ### The other agents (R97, R381, R383, R392, R395, R396) -/

/-- A turn of another agent leaves what its move answers (log 14). -/
theorem step_of_envMove {s t : State} {m : EnvMove} {rest : List (Option EnvMove)}
    (h : s.env = some m :: rest) (hm : envMove m (s.setEnv rest) = .ok t) : step s = .next t := by
  rw [step, turn, h]
  exact finish_next.mpr hm

section agents
variable {s : State} {src : IntSource}

/-- A source's request sets its pending bit, the timer's only with TIMER 1 (R381, R392). -/
theorem request_eq (h : src ∈ s.params.sources) :
    request src.bit s = s.setPending
      (if s.params.timerBit != some src.bit || s.mode .timer then withBit s.pending src.bit true
        else s.pending) := by
  have hsome : (sourceOf src.bit s).isSome = true :=
    List.find?_isSome.mpr ⟨src, h, beq_self_eq_true src.bit⟩
  rw [request, hsome, Bool.true_and]
  split <;> rfl

/-- With distinct bits the source of a source's bit is that source (R382). -/
theorem sourceOf_bit (h : src ∈ s.params.sources) (hd : DistinctBits s.params.sources) :
    sourceOf src.bit s = some src := by
  obtain ⟨pre, post, hsplit⟩ := List.append_of_mem h
  rw [hsplit] at hd
  refine List.find?_eq_some_iff_append.mpr ⟨beq_self_eq_true src.bit, pre, post, hsplit, ?_⟩
  intro x hx
  simpa using bit_ne_of_above hd x hx src List.mem_cons_self

/-- A withdrawal clears the pending bit of a level-sensitive source (R383). -/
theorem withdraw_eq (h : src ∈ s.params.sources) (hd : DistinctBits s.params.sources) :
    withdraw src.bit s = s.setPending
      (if !isEdge s src then withBit s.pending src.bit false else s.pending) := by
  rw [withdraw, sourceOf_bit h hd]
  show (if isEdge s src then s else _) = _
  cases isEdge s src <;> rfl

/-- The timer's request counts only with TIMER 1 (R392). -/
theorem timerGate_iff (b : Fin 16) :
    (s.params.timerBit != some b || s.mode .timer) = true ↔
      (s.params.timerBit = some b → s.mode .timer = true) := by
  rw [Bool.or_eq_true, bne_iff_ne, imp_iff_not_or]

theorem step_request {rest : List (Option EnvMove)} (h : src ∈ s.params.sources)
    (henv : s.env = some (.request src.bit) :: rest) :
    ∃ t, step s = .next t ∧ t.setPending s.pending = s.setEnv rest ∧
      ∀ k : Fin 16, t.pending.getLsbD k.val =
        (if k = src.bit ∧ (s.params.timerBit = some src.bit → s.mode .timer = true) then true
          else s.pending.getLsbD k.val) := by
  refine ⟨request src.bit (s.setEnv rest), step_of_envMove henv rfl, ?_, fun k => ?_⟩
  · rw [request_eq (s := s.setEnv rest) h]
    rfl
  · rw [request_eq (s := s.setEnv rest) h]
    refine (getLsbD_ite_withBit _ _ _ k true).trans (if_congr ?_ rfl rfl)
    rw [and_comm]
    exact and_congr_right' (timerGate_iff src.bit)

theorem step_withdraw {rest : List (Option EnvMove)} (h : src ∈ s.params.sources)
    (hd : DistinctBits s.params.sources) (henv : s.env = some (.withdraw src.bit) :: rest) :
    ∃ t, step s = .next t ∧ t.setPending s.pending = s.setEnv rest ∧
      ∀ k : Fin 16, t.pending.getLsbD k.val =
        (if k = src.bit ∧ edgeSensitive s src = false then false else s.pending.getLsbD k.val) := by
  refine ⟨withdraw src.bit (s.setEnv rest), step_of_envMove henv rfl, ?_, fun k => ?_⟩
  · rw [withdraw_eq (s := s.setEnv rest) h hd]
    rfl
  · rw [withdraw_eq (s := s.setEnv rest) h hd]
    refine (getLsbD_ite_withBit _ _ _ k false).trans (if_congr ?_ rfl rfl)
    rw [and_comm, Bool.not_eq_true', isEdge_congr (State.setEnv_icntl s rest),
      isEdge_eq_edgeSensitive]

end agents

/-- Settles O57: each agent's turn is its move, and each move the operation it names. -/
theorem otherAgents : Obligations.OtherAgents := by
  unfold Obligations.OtherAgents
  intro s rest sp a v w port p
  refine ⟨fun src hsrc hd => ⟨step_request hsrc, step_withdraw hsrc hd⟩, fun henv hram => ?_,
    fun henv hram => ?_, fun henv => ?_, fun henv hram => ?_, fun henv hdm => ?_⟩
  · have hwrite : writeDm a v (s.setEnv rest) = .ok (storedDm (s.setEnv rest) a v) :=
      writeDm_ok.mpr ⟨hram, rfl⟩
    obtain ⟨henv, hdma⟩ | henv := henv
    · exact step_of_envMove henv ((if_pos hdma).trans hwrite)
    · exact step_of_envMove henv hwrite
  · have hwrite : writePmOutside a w (s.setEnv rest) = .ok ((s.setEnv rest).setPm
        (Memory.store s.pm a.toNat (.word w (programWrote a s)))) :=
      writePmOutside_ok.mpr ⟨hram, rfl⟩
    refine ⟨programWrote a s, programWrote_iff, ?_⟩
    obtain ⟨henv, hdma⟩ | henv := henv
    · exact step_of_envMove henv ((if_pos hdma).trans hwrite)
    · exact step_of_envMove henv hwrite
  · obtain henv | ⟨hdma, henv | henv⟩ := henv
    · exact step_of_envMove henv rfl
    · exact step_of_envMove henv (if_neg (Bool.eq_false_iff.mp hdma))
    · exact step_of_envMove henv (if_neg (Bool.eq_false_iff.mp hdma))
  · have hwrite : writeDm (dmEa p s) v (s.setEnv rest) =
        .ok (storedDm (s.setEnv rest) (dmEa p s) v) := writeDm_ok.mpr ⟨hram, rfl⟩
    exact step_of_envMove henv (bind_ok.mpr ⟨_, hwrite, rfl⟩)
  · have hread : readDm (dmEa p s) (s.setEnv rest) = .ok v := readDm_ok.mpr hdm
    exact step_of_envMove henv (bind_ok.mpr ⟨_, hread, rfl⟩)

end Sys2Proof.Machine
end
